-- ==== Sys2Proof/Word.lean ====
section
/-!
DEFINITION. The widths of the eZ8 CPU (00_scope.md R5, R6) as bit-vector types. Arithmetic on them is
modulo 2^N (R8), which is what `BitVec` addition and subtraction are.
-/

namespace Sys2Proof

/-- A 4-bit working-register number (00_scope.md R10: `r`, `Ir`, `rr`, `Irr`). -/
abbrev Nib := BitVec 4

/-- The 8-bit data width of the core (00_scope.md R5). -/
abbrev Byte := BitVec 8

/-- A 12-bit Register File address (00_scope.md R5, 20_memory.md R70). -/
abbrev Addr := BitVec 12

/-- A 16-bit value: the Program Counter, a Program or Data Memory address, a register pair. -/
abbrev Word := BitVec 16

/-- A bit number 0 to 7 (00_scope.md R10: `b`). -/
abbrev BitNo := BitVec 3

end Sys2Proof
end

