-- ==== Sys2Proof/Syntax.lean ====
section
/-!
DEFINITION. The instructions: one constructor per row of spec/opcode_table.json. A constructor's name is the
mnemonic followed by its operand kinds (00_scope.md R10); operands stand destination first
(30_encoding.md R111). The eight rows marked `alias_of` (30_encoding.md R146) have constructors of their own;
the decoder answers the instruction they spell (notes/assumptions/35.md).
-/

namespace Sys2Proof

/-- The sixteen condition codes (10_state.md R37), in the order of their codes 0 to 15. -/
inductive Cond
  | f | lt | le | ule | ov | mi | z | c | t | ge | gt | ugt | nov | pl | nz | nc
  deriving DecidableEq, Repr

/-- An instruction with its operands. -/
inductive Instr
  /-- `ADC r1, r2` (40_arithmetic.md R174) -/
  | adc_r_r (dst src : Nib)
  /-- `ADC r1, @r2` (40_arithmetic.md R174) -/
  | adc_r_Ir (dst src : Nib)
  /-- `ADC R1, R2` (40_arithmetic.md R174) -/
  | adc_R_R (dst src : Byte)
  /-- `ADC R1, @R2` (40_arithmetic.md R174) -/
  | adc_R_IR (dst src : Byte)
  /-- `ADC R1, IM` (40_arithmetic.md R174) -/
  | adc_R_IM (dst im : Byte)
  /-- `ADC @R1, IM` (40_arithmetic.md R174) -/
  | adc_IR_IM (dst im : Byte)
  /-- `ADCX ER1, ER2` (40_arithmetic.md R175) -/
  | adcx_ER_ER (dst src : Addr)
  /-- `ADCX ER1, IM` (40_arithmetic.md R175) -/
  | adcx_ER_IM (dst : Addr) (im : Byte)
  /-- `ADD r1, r2` (40_arithmetic.md R176) -/
  | add_r_r (dst src : Nib)
  /-- `ADD r1, @r2` (40_arithmetic.md R176) -/
  | add_r_Ir (dst src : Nib)
  /-- `ADD R1, R2` (40_arithmetic.md R176) -/
  | add_R_R (dst src : Byte)
  /-- `ADD R1, @R2` (40_arithmetic.md R176) -/
  | add_R_IR (dst src : Byte)
  /-- `ADD R1, IM` (40_arithmetic.md R176) -/
  | add_R_IM (dst im : Byte)
  /-- `ADD @R1, IM` (40_arithmetic.md R176) -/
  | add_IR_IM (dst im : Byte)
  /-- `ADDX ER1, ER2` (40_arithmetic.md R177) -/
  | addx_ER_ER (dst src : Addr)
  /-- `ADDX ER1, IM` (40_arithmetic.md R177) -/
  | addx_ER_IM (dst : Addr) (im : Byte)
  /-- `CP r1, r2` (40_arithmetic.md R178) -/
  | cp_r_r (dst src : Nib)
  /-- `CP r1, @r2` (40_arithmetic.md R178) -/
  | cp_r_Ir (dst src : Nib)
  /-- `CP R1, R2` (40_arithmetic.md R178) -/
  | cp_R_R (dst src : Byte)
  /-- `CP R1, @R2` (40_arithmetic.md R178) -/
  | cp_R_IR (dst src : Byte)
  /-- `CP R1, IM` (40_arithmetic.md R178) -/
  | cp_R_IM (dst im : Byte)
  /-- `CP @R1, IM` (40_arithmetic.md R178) -/
  | cp_IR_IM (dst im : Byte)
  /-- `CPX ER1, ER2` (40_arithmetic.md R181) -/
  | cpx_ER_ER (dst src : Addr)
  /-- `CPX ER1, IM` (40_arithmetic.md R181) -/
  | cpx_ER_IM (dst : Addr) (im : Byte)
  /-- `CPC r1, r2` (40_arithmetic.md R179) -/
  | cpc_r_r (dst src : Nib)
  /-- `CPC r1, @r2` (40_arithmetic.md R179) -/
  | cpc_r_Ir (dst src : Nib)
  /-- `CPC R1, R2` (40_arithmetic.md R179) -/
  | cpc_R_R (dst src : Byte)
  /-- `CPC R1, @R2` (40_arithmetic.md R179) -/
  | cpc_R_IR (dst src : Byte)
  /-- `CPC R1, IM` (40_arithmetic.md R179) -/
  | cpc_R_IM (dst im : Byte)
  /-- `CPC @R1, IM` (40_arithmetic.md R179) -/
  | cpc_IR_IM (dst im : Byte)
  /-- `CPCX ER1, ER2` (40_arithmetic.md R180) -/
  | cpcx_ER_ER (dst src : Addr)
  /-- `CPCX ER1, IM` (40_arithmetic.md R180) -/
  | cpcx_ER_IM (dst : Addr) (im : Byte)
  /-- `DA R1` (40_arithmetic.md R182) -/
  | da_R (dst : Byte)
  /-- `DA @R1` (40_arithmetic.md R182) -/
  | da_IR (dst : Byte)
  /-- `DEC R1` (40_arithmetic.md R184) -/
  | dec_R (dst : Byte)
  /-- `DEC @R1` (40_arithmetic.md R184) -/
  | dec_IR (dst : Byte)
  /-- `DECW RR1` (40_arithmetic.md R185) -/
  | decw_RR (dst : Byte)
  /-- `DECW @R1` (40_arithmetic.md R185) -/
  | decw_IR (dst : Byte)
  /-- `INC r1` (40_arithmetic.md R186) -/
  | inc_r (dst : Nib)
  /-- `INC R1` (40_arithmetic.md R186) -/
  | inc_R (dst : Byte)
  /-- `INC @R1` (40_arithmetic.md R186) -/
  | inc_IR (dst : Byte)
  /-- `INCW RR1` (40_arithmetic.md R187) -/
  | incw_RR (dst : Byte)
  /-- `INCW @R1` (40_arithmetic.md R187) -/
  | incw_IR (dst : Byte)
  /-- `MULT RR1` (40_arithmetic.md R188) -/
  | mult_RR (dst : Byte)
  /-- `SBC r1, r2` (40_arithmetic.md R189) -/
  | sbc_r_r (dst src : Nib)
  /-- `SBC r1, @r2` (40_arithmetic.md R189) -/
  | sbc_r_Ir (dst src : Nib)
  /-- `SBC R1, R2` (40_arithmetic.md R189) -/
  | sbc_R_R (dst src : Byte)
  /-- `SBC R1, @R2` (40_arithmetic.md R189) -/
  | sbc_R_IR (dst src : Byte)
  /-- `SBC R1, IM` (40_arithmetic.md R189) -/
  | sbc_R_IM (dst im : Byte)
  /-- `SBC @R1, IM` (40_arithmetic.md R189) -/
  | sbc_IR_IM (dst im : Byte)
  /-- `SBCX ER1, ER2` (40_arithmetic.md R190) -/
  | sbcx_ER_ER (dst src : Addr)
  /-- `SBCX ER1, IM` (40_arithmetic.md R190) -/
  | sbcx_ER_IM (dst : Addr) (im : Byte)
  /-- `SUB r1, r2` (40_arithmetic.md R191) -/
  | sub_r_r (dst src : Nib)
  /-- `SUB r1, @r2` (40_arithmetic.md R191) -/
  | sub_r_Ir (dst src : Nib)
  /-- `SUB R1, R2` (40_arithmetic.md R191) -/
  | sub_R_R (dst src : Byte)
  /-- `SUB R1, @R2` (40_arithmetic.md R191) -/
  | sub_R_IR (dst src : Byte)
  /-- `SUB R1, IM` (40_arithmetic.md R191) -/
  | sub_R_IM (dst im : Byte)
  /-- `SUB @R1, IM` (40_arithmetic.md R191) -/
  | sub_IR_IM (dst im : Byte)
  /-- `SUBX ER1, ER2` (40_arithmetic.md R192) -/
  | subx_ER_ER (dst src : Addr)
  /-- `SUBX ER1, IM` (40_arithmetic.md R192) -/
  | subx_ER_IM (dst : Addr) (im : Byte)
  /-- `BIT p, b, r1` (41_bit_manipulation.md R210) -/
  | bit (p : Bool) (b : BitNo) (dst : Nib)
  /-- `BCLR b, r1` (41_bit_manipulation.md R211) -/
  | bclr (b : BitNo) (dst : Nib)
  /-- `BSET b, r1` (41_bit_manipulation.md R212) -/
  | bset (b : BitNo) (dst : Nib)
  /-- `BSWAP R1` (41_bit_manipulation.md R213) -/
  | bswap_R (dst : Byte)
  /-- `CCF` (41_bit_manipulation.md R214) -/
  | ccf
  /-- `RCF` (41_bit_manipulation.md R215) -/
  | rcf
  /-- `SCF` (41_bit_manipulation.md R216) -/
  | scf
  /-- `TCM r1, r2` (41_bit_manipulation.md R217) -/
  | tcm_r_r (dst src : Nib)
  /-- `TCM r1, @r2` (41_bit_manipulation.md R217) -/
  | tcm_r_Ir (dst src : Nib)
  /-- `TCM R1, R2` (41_bit_manipulation.md R217) -/
  | tcm_R_R (dst src : Byte)
  /-- `TCM R1, @R2` (41_bit_manipulation.md R217) -/
  | tcm_R_IR (dst src : Byte)
  /-- `TCM R1, IM` (41_bit_manipulation.md R217) -/
  | tcm_R_IM (dst im : Byte)
  /-- `TCM @R1, IM` (41_bit_manipulation.md R217) -/
  | tcm_IR_IM (dst im : Byte)
  /-- `TCMX ER1, ER2` (41_bit_manipulation.md R218) -/
  | tcmx_ER_ER (dst src : Addr)
  /-- `TCMX ER1, IM` (41_bit_manipulation.md R218) -/
  | tcmx_ER_IM (dst : Addr) (im : Byte)
  /-- `TM r1, r2` (41_bit_manipulation.md R219) -/
  | tm_r_r (dst src : Nib)
  /-- `TM r1, @r2` (41_bit_manipulation.md R219) -/
  | tm_r_Ir (dst src : Nib)
  /-- `TM R1, R2` (41_bit_manipulation.md R219) -/
  | tm_R_R (dst src : Byte)
  /-- `TM R1, @R2` (41_bit_manipulation.md R219) -/
  | tm_R_IR (dst src : Byte)
  /-- `TM R1, IM` (41_bit_manipulation.md R219) -/
  | tm_R_IM (dst im : Byte)
  /-- `TM @R1, IM` (41_bit_manipulation.md R219) -/
  | tm_IR_IM (dst im : Byte)
  /-- `TMX ER1, ER2` (41_bit_manipulation.md R220) -/
  | tmx_ER_ER (dst src : Addr)
  /-- `TMX ER1, IM` (41_bit_manipulation.md R220) -/
  | tmx_ER_IM (dst : Addr) (im : Byte)
  /-- `LDC r1, @rr2` (42_block_transfer.md R232) -/
  | ldc_r_Irr (dst src : Nib)
  /-- `LDC @r1, @rr2` (42_block_transfer.md R232) -/
  | ldc_Ir_Irr (dst src : Nib)
  /-- `LDC @rr1, r2` (42_block_transfer.md R232) -/
  | ldc_Irr_r (dst src : Nib)
  /-- `LDCI @r1, @rr2` (42_block_transfer.md R233) -/
  | ldci_Ir_Irr (dst src : Nib)
  /-- `LDCI @rr1, @r2` (42_block_transfer.md R233) -/
  | ldci_Irr_Ir (dst src : Nib)
  /-- `LDE r1, @rr2` (42_block_transfer.md R234) -/
  | lde_r_Irr (dst src : Nib)
  /-- `LDE @rr1, r2` (42_block_transfer.md R234) -/
  | lde_Irr_r (dst src : Nib)
  /-- `LDEI @r1, @rr2` (42_block_transfer.md R235) -/
  | ldei_Ir_Irr (dst src : Nib)
  /-- `LDEI @rr1, @r2` (42_block_transfer.md R235) -/
  | ldei_Irr_Ir (dst src : Nib)
  /-- `ATM` (43_cpu_control.md R240) -/
  | atm
  /-- `DI` (43_cpu_control.md R242) -/
  | di
  /-- `EI` (43_cpu_control.md R244) -/
  | ei
  /-- `HALT` (43_cpu_control.md R243) -/
  | halt
  /-- `NOP` (43_cpu_control.md R245) -/
  | nop
  /-- `SRP IM` (43_cpu_control.md R246) -/
  | srp (im : Byte)
  /-- `STOP` (43_cpu_control.md R247) -/
  | stop
  /-- `WDT` (43_cpu_control.md R248) -/
  | wdt
  /-- `CLR R1` (44_load.md R260) -/
  | clr_R (dst : Byte)
  /-- `CLR @R1` (44_load.md R260) -/
  | clr_IR (dst : Byte)
  /-- `LD r1, IM` (44_load.md R262) -/
  | ld_r_IM (dst : Nib) (im : Byte)
  /-- `LD R1, IM` (44_load.md R262) -/
  | ld_R_IM (dst im : Byte)
  /-- `LD @R1, IM` (44_load.md R262) -/
  | ld_IR_IM (dst im : Byte)
  /-- `LD r1, @r2` (44_load.md R263) -/
  | ld_r_Ir (dst src : Nib)
  /-- `LD @r1, r2` (44_load.md R263) -/
  | ld_Ir_r (dst src : Nib)
  /-- `LD R1, R2` (44_load.md R264) -/
  | ld_R_R (dst src : Byte)
  /-- `LD R1, @R2` (44_load.md R264) -/
  | ld_R_IR (dst src : Byte)
  /-- `LD @R1, R2` (44_load.md R264) -/
  | ld_IR_R (dst src : Byte)
  /-- `LD r1, X(r2)` (44_load.md R265) -/
  | ld_r_Xr (dst base : Nib) (x : Byte)
  /-- `LD X(r1), r2` (44_load.md R265) -/
  | ld_Xr_r (base : Nib) (x : Byte) (src : Nib)
  /-- `LDWX ER1, ER2` (44_load.md R268) -/
  | ldwx_ER_ER (dst src : Addr)
  /-- `LDX r1, ER2` (44_load.md R269) -/
  | ldx_r_ER (dst : Nib) (src : Addr)
  /-- `LDX @r1, ER2` (44_load.md R269) -/
  | ldx_Ir_ER (dst : Nib) (src : Addr)
  /-- `LDX R1, @RR2` (44_load.md R270) -/
  | ldx_R_IRR (dst src : Byte)
  /-- `LDX @R1, @.ER(RR2)` (44_load.md R270) -/
  | ldx_IR_IRR (dst src : Byte)
  /-- `LDX r1, X(rr2)` (44_load.md R273) -/
  | ldx_r_Xrr (dst base : Nib) (x : Byte)
  /-- `LDX X(rr1), r2` (44_load.md R273) -/
  | ldx_Xrr_r (base : Nib) (x : Byte) (src : Nib)
  /-- `LDX ER1, r2` (44_load.md R269) -/
  | ldx_ER_r (dst : Addr) (src : Nib)
  /-- `LDX ER1, @r2` (44_load.md R269) -/
  | ldx_ER_Ir (dst : Addr) (src : Nib)
  /-- `LDX @RR1, R2` (44_load.md R270) -/
  | ldx_IRR_R (dst src : Byte)
  /-- `LDX @.ER(RR1), @R2` (44_load.md R270) -/
  | ldx_IRR_IR (dst src : Byte)
  /-- `LDX ER1, ER2` (44_load.md R271) -/
  | ldx_ER_ER (dst src : Addr)
  /-- `LDX ER1, IM` (44_load.md R271) -/
  | ldx_ER_IM (dst : Addr) (im : Byte)
  /-- `LEA r1, X(r2)` (44_load.md R272) -/
  | lea_r_Xr (dst base : Nib) (x : Byte)
  /-- `LEA rr1, X(rr2)` (44_load.md R272) -/
  | lea_rr_Xrr (dst base : Nib) (x : Byte)
  /-- `POP R1` (44_load.md R274) -/
  | pop_R (dst : Byte)
  /-- `POP @R1` (44_load.md R274) -/
  | pop_IR (dst : Byte)
  /-- `POPX ER1` (44_load.md R275) -/
  | popx_ER (dst : Addr)
  /-- `PUSH R2` (44_load.md R276) -/
  | push_R (src : Byte)
  /-- `PUSH @R2` (44_load.md R276) -/
  | push_IR (src : Byte)
  /-- `PUSH IM` (44_load.md R276) -/
  | push_IM (im : Byte)
  /-- `PUSHX ER2` (44_load.md R277) -/
  | pushx_ER (src : Addr)
  /-- `AND r1, r2` (45_logical.md R290) -/
  | and_r_r (dst src : Nib)
  /-- `AND r1, @r2` (45_logical.md R290) -/
  | and_r_Ir (dst src : Nib)
  /-- `AND R1, R2` (45_logical.md R290) -/
  | and_R_R (dst src : Byte)
  /-- `AND R1, @R2` (45_logical.md R290) -/
  | and_R_IR (dst src : Byte)
  /-- `AND R1, IM` (45_logical.md R290) -/
  | and_R_IM (dst im : Byte)
  /-- `AND @R1, IM` (45_logical.md R290) -/
  | and_IR_IM (dst im : Byte)
  /-- `ANDX ER1, ER2` (45_logical.md R291) -/
  | andx_ER_ER (dst src : Addr)
  /-- `ANDX ER1, IM` (45_logical.md R291) -/
  | andx_ER_IM (dst : Addr) (im : Byte)
  /-- `COM R1` (45_logical.md R292) -/
  | com_R (dst : Byte)
  /-- `COM @R1` (45_logical.md R292) -/
  | com_IR (dst : Byte)
  /-- `OR r1, r2` (45_logical.md R293) -/
  | or_r_r (dst src : Nib)
  /-- `OR r1, @r2` (45_logical.md R293) -/
  | or_r_Ir (dst src : Nib)
  /-- `OR R1, R2` (45_logical.md R293) -/
  | or_R_R (dst src : Byte)
  /-- `OR R1, @R2` (45_logical.md R293) -/
  | or_R_IR (dst src : Byte)
  /-- `OR R1, IM` (45_logical.md R293) -/
  | or_R_IM (dst im : Byte)
  /-- `OR @R1, IM` (45_logical.md R293) -/
  | or_IR_IM (dst im : Byte)
  /-- `ORX ER1, ER2` (45_logical.md R294) -/
  | orx_ER_ER (dst src : Addr)
  /-- `ORX ER1, IM` (45_logical.md R294) -/
  | orx_ER_IM (dst : Addr) (im : Byte)
  /-- `XOR r1, r2` (45_logical.md R295) -/
  | xor_r_r (dst src : Nib)
  /-- `XOR r1, @r2` (45_logical.md R295) -/
  | xor_r_Ir (dst src : Nib)
  /-- `XOR R1, R2` (45_logical.md R295) -/
  | xor_R_R (dst src : Byte)
  /-- `XOR R1, @R2` (45_logical.md R295) -/
  | xor_R_IR (dst src : Byte)
  /-- `XOR R1, IM` (45_logical.md R295) -/
  | xor_R_IM (dst im : Byte)
  /-- `XOR @R1, IM` (45_logical.md R295) -/
  | xor_IR_IM (dst im : Byte)
  /-- `XORX ER1, ER2` (45_logical.md R296) -/
  | xorx_ER_ER (dst src : Addr)
  /-- `XORX ER1, IM` (45_logical.md R296) -/
  | xorx_ER_IM (dst : Addr) (im : Byte)
  /-- `BRK` (46_program_control.md R311) -/
  | brk
  /-- `BTJ p, b, r2, X` (46_program_control.md R313) -/
  | btj_r (p : Bool) (b : BitNo) (src : Nib) (x : Byte)
  /-- `BTJ p, b, @r2, X` (46_program_control.md R313) -/
  | btj_Ir (p : Bool) (b : BitNo) (src : Nib) (x : Byte)
  /-- `BTJNZ b, r2, X` (46_program_control.md R314) -/
  | btjnz_r (b : BitNo) (src : Nib) (x : Byte)
  /-- `BTJNZ b, @r2, X` (46_program_control.md R314) -/
  | btjnz_Ir (b : BitNo) (src : Nib) (x : Byte)
  /-- `BTJZ b, r2, X` (46_program_control.md R315) -/
  | btjz_r (b : BitNo) (src : Nib) (x : Byte)
  /-- `BTJZ b, @r2, X` (46_program_control.md R315) -/
  | btjz_Ir (b : BitNo) (src : Nib) (x : Byte)
  /-- `CALL @RR1` (46_program_control.md R316) -/
  | call_IRR (dst : Byte)
  /-- `CALL DA` (46_program_control.md R316) -/
  | call_DA (target : Word)
  /-- `DJNZ r1, X` (46_program_control.md R317) -/
  | djnz (dst : Nib) (x : Byte)
  /-- `IRET` (46_program_control.md R318) -/
  | iret
  /-- `JP @RR1` (46_program_control.md R319) -/
  | jp_IRR (dst : Byte)
  /-- `JP DA` (46_program_control.md R319) -/
  | jp_DA (target : Word)
  /-- `JP cc cc, DA` (46_program_control.md R320) -/
  | jp_cc (cc : Cond) (target : Word)
  /-- `JR X` (46_program_control.md R321) -/
  | jr (x : Byte)
  /-- `JR cc cc, X` (46_program_control.md R322) -/
  | jr_cc (cc : Cond) (x : Byte)
  /-- `RET` (46_program_control.md R323) -/
  | ret
  /-- `TRAP Vector` (46_program_control.md R326) -/
  | trap (vector : Byte)
  /-- `RL R1` (47_rotate_shift.md R342) -/
  | rl_R (dst : Byte)
  /-- `RL @R1` (47_rotate_shift.md R342) -/
  | rl_IR (dst : Byte)
  /-- `RLC R1` (47_rotate_shift.md R343) -/
  | rlc_R (dst : Byte)
  /-- `RLC @R1` (47_rotate_shift.md R343) -/
  | rlc_IR (dst : Byte)
  /-- `RR R1` (47_rotate_shift.md R344) -/
  | rr_R (dst : Byte)
  /-- `RR @R1` (47_rotate_shift.md R344) -/
  | rr_IR (dst : Byte)
  /-- `RRC R1` (47_rotate_shift.md R345) -/
  | rrc_R (dst : Byte)
  /-- `RRC @R1` (47_rotate_shift.md R345) -/
  | rrc_IR (dst : Byte)
  /-- `SRA R1` (47_rotate_shift.md R346) -/
  | sra_R (dst : Byte)
  /-- `SRA @R1` (47_rotate_shift.md R346) -/
  | sra_IR (dst : Byte)
  /-- `SRL R1` (47_rotate_shift.md R347) -/
  | srl_R (dst : Byte)
  /-- `SRL @R1` (47_rotate_shift.md R347) -/
  | srl_IR (dst : Byte)
  /-- `SWAP R1` (47_rotate_shift.md R348) -/
  | swap_R (dst : Byte)
  /-- `SWAP @R1` (47_rotate_shift.md R348) -/
  | swap_IR (dst : Byte)
  deriving DecidableEq, Repr

end Sys2Proof
end

