-- ==== Sys2Proof/WellFormed.lean ====
section
/-!
DEFINITION. What the specification requires of operands beyond their widths: a register pair is named by an
even number (20_memory.md R75, R76; 44_load.md R268). What an odd one does is the product's `ODD_PAIR` and
`ODD_LDWX`, so `exec` has a meaning for it too.
-/

namespace Sys2Proof

/-- A working-register pair number is even (00_scope.md R10: `rr`, `Irr`). -/
def evenNib (n : Nib) : Bool := !n.getLsbD 0

/-- A register pair byte is even (00_scope.md R10: `RR`, `IRR`). -/
def evenByte (a : Byte) : Bool := !a.getLsbD 0

/-- An extended register pair address is even (44_load.md R268). -/
def evenAddr (a : Addr) : Bool := !a.getLsbD 0

/-- The operands are ones the specification allows. -/
def Instr.wellFormed : Instr → Bool
  | .adc_r_r _ _ => true
  | .adc_r_Ir _ _ => true
  | .adc_R_R _ _ => true
  | .adc_R_IR _ _ => true
  | .adc_R_IM _ _ => true
  | .adc_IR_IM _ _ => true
  | .adcx_ER_ER _ _ => true
  | .adcx_ER_IM _ _ => true
  | .add_r_r _ _ => true
  | .add_r_Ir _ _ => true
  | .add_R_R _ _ => true
  | .add_R_IR _ _ => true
  | .add_R_IM _ _ => true
  | .add_IR_IM _ _ => true
  | .addx_ER_ER _ _ => true
  | .addx_ER_IM _ _ => true
  | .cp_r_r _ _ => true
  | .cp_r_Ir _ _ => true
  | .cp_R_R _ _ => true
  | .cp_R_IR _ _ => true
  | .cp_R_IM _ _ => true
  | .cp_IR_IM _ _ => true
  | .cpx_ER_ER _ _ => true
  | .cpx_ER_IM _ _ => true
  | .cpc_r_r _ _ => true
  | .cpc_r_Ir _ _ => true
  | .cpc_R_R _ _ => true
  | .cpc_R_IR _ _ => true
  | .cpc_R_IM _ _ => true
  | .cpc_IR_IM _ _ => true
  | .cpcx_ER_ER _ _ => true
  | .cpcx_ER_IM _ _ => true
  | .da_R _ => true
  | .da_IR _ => true
  | .dec_R _ => true
  | .dec_IR _ => true
  | .decw_RR dst => evenByte dst
  | .decw_IR _ => true
  | .inc_r _ => true
  | .inc_R _ => true
  | .inc_IR _ => true
  | .incw_RR dst => evenByte dst
  | .incw_IR _ => true
  | .mult_RR dst => evenByte dst
  | .sbc_r_r _ _ => true
  | .sbc_r_Ir _ _ => true
  | .sbc_R_R _ _ => true
  | .sbc_R_IR _ _ => true
  | .sbc_R_IM _ _ => true
  | .sbc_IR_IM _ _ => true
  | .sbcx_ER_ER _ _ => true
  | .sbcx_ER_IM _ _ => true
  | .sub_r_r _ _ => true
  | .sub_r_Ir _ _ => true
  | .sub_R_R _ _ => true
  | .sub_R_IR _ _ => true
  | .sub_R_IM _ _ => true
  | .sub_IR_IM _ _ => true
  | .subx_ER_ER _ _ => true
  | .subx_ER_IM _ _ => true
  | .bit _ _ _ => true
  | .bclr _ _ => true
  | .bset _ _ => true
  | .bswap_R _ => true
  | .ccf => true
  | .rcf => true
  | .scf => true
  | .tcm_r_r _ _ => true
  | .tcm_r_Ir _ _ => true
  | .tcm_R_R _ _ => true
  | .tcm_R_IR _ _ => true
  | .tcm_R_IM _ _ => true
  | .tcm_IR_IM _ _ => true
  | .tcmx_ER_ER _ _ => true
  | .tcmx_ER_IM _ _ => true
  | .tm_r_r _ _ => true
  | .tm_r_Ir _ _ => true
  | .tm_R_R _ _ => true
  | .tm_R_IR _ _ => true
  | .tm_R_IM _ _ => true
  | .tm_IR_IM _ _ => true
  | .tmx_ER_ER _ _ => true
  | .tmx_ER_IM _ _ => true
  | .ldc_r_Irr _ src => evenNib src
  | .ldc_Ir_Irr _ src => evenNib src
  | .ldc_Irr_r dst _ => evenNib dst
  | .ldci_Ir_Irr _ src => evenNib src
  | .ldci_Irr_Ir dst _ => evenNib dst
  | .lde_r_Irr _ src => evenNib src
  | .lde_Irr_r dst _ => evenNib dst
  | .ldei_Ir_Irr _ src => evenNib src
  | .ldei_Irr_Ir dst _ => evenNib dst
  | .atm => true
  | .di => true
  | .ei => true
  | .halt => true
  | .nop => true
  | .srp _ => true
  | .stop => true
  | .wdt => true
  | .clr_R _ => true
  | .clr_IR _ => true
  | .ld_r_IM _ _ => true
  | .ld_R_IM _ _ => true
  | .ld_IR_IM _ _ => true
  | .ld_r_Ir _ _ => true
  | .ld_Ir_r _ _ => true
  | .ld_R_R _ _ => true
  | .ld_R_IR _ _ => true
  | .ld_IR_R _ _ => true
  | .ld_r_Xr _ _ _ => true
  | .ld_Xr_r _ _ _ => true
  | .ldwx_ER_ER dst src => evenAddr dst && evenAddr src
  | .ldx_r_ER _ _ => true
  | .ldx_Ir_ER _ _ => true
  | .ldx_R_IRR _ src => evenByte src
  | .ldx_IR_IRR _ src => evenByte src
  | .ldx_r_Xrr _ base _ => evenNib base
  | .ldx_Xrr_r base _ _ => evenNib base
  | .ldx_ER_r _ _ => true
  | .ldx_ER_Ir _ _ => true
  | .ldx_IRR_R dst _ => evenByte dst
  | .ldx_IRR_IR dst _ => evenByte dst
  | .ldx_ER_ER _ _ => true
  | .ldx_ER_IM _ _ => true
  | .lea_r_Xr _ _ _ => true
  | .lea_rr_Xrr dst base _ => evenNib dst && evenNib base
  | .pop_R _ => true
  | .pop_IR _ => true
  | .popx_ER _ => true
  | .push_R _ => true
  | .push_IR _ => true
  | .push_IM _ => true
  | .pushx_ER _ => true
  | .and_r_r _ _ => true
  | .and_r_Ir _ _ => true
  | .and_R_R _ _ => true
  | .and_R_IR _ _ => true
  | .and_R_IM _ _ => true
  | .and_IR_IM _ _ => true
  | .andx_ER_ER _ _ => true
  | .andx_ER_IM _ _ => true
  | .com_R _ => true
  | .com_IR _ => true
  | .or_r_r _ _ => true
  | .or_r_Ir _ _ => true
  | .or_R_R _ _ => true
  | .or_R_IR _ _ => true
  | .or_R_IM _ _ => true
  | .or_IR_IM _ _ => true
  | .orx_ER_ER _ _ => true
  | .orx_ER_IM _ _ => true
  | .xor_r_r _ _ => true
  | .xor_r_Ir _ _ => true
  | .xor_R_R _ _ => true
  | .xor_R_IR _ _ => true
  | .xor_R_IM _ _ => true
  | .xor_IR_IM _ _ => true
  | .xorx_ER_ER _ _ => true
  | .xorx_ER_IM _ _ => true
  | .brk => true
  | .btj_r _ _ _ _ => true
  | .btj_Ir _ _ _ _ => true
  | .btjnz_r _ _ _ => true
  | .btjnz_Ir _ _ _ => true
  | .btjz_r _ _ _ => true
  | .btjz_Ir _ _ _ => true
  | .call_IRR dst => evenByte dst
  | .call_DA _ => true
  | .djnz _ _ => true
  | .iret => true
  | .jp_IRR dst => evenByte dst
  | .jp_DA _ => true
  | .jp_cc _ _ => true
  | .jr _ => true
  | .jr_cc _ _ => true
  | .ret => true
  | .trap _ => true
  | .rl_R _ => true
  | .rl_IR _ => true
  | .rlc_R _ => true
  | .rlc_IR _ => true
  | .rr_R _ => true
  | .rr_IR _ => true
  | .rrc_R _ => true
  | .rrc_IR _ => true
  | .sra_R _ => true
  | .sra_IR _ => true
  | .srl_R _ => true
  | .srl_IR _ => true
  | .swap_R _ => true
  | .swap_IR _ => true

end Sys2Proof
end

