-- ==== Sys2Proof/Decode.lean ====
section
/-!
DEFINITION. From bytes to an instruction, and back (30_encoding.md). Decoding is total: every byte list is a
defined instruction, an instruction with a non-zero fixed nibble, an illegal sequence, or too short
(30_encoding.md R150). Operand bytes never make a defined opcode illegal.
-/

namespace Sys2Proof

/-- What a byte list decodes to. -/
inductive Decoded
  /-- a defined instruction of `length` bytes (R114) -/
  | ok (i : Instr) (length : Nat)
  /-- a defined instruction in whose fixed 0h nibble a non-zero value stands (R119); what the CPU does with it is
  the parameter `RESERVED_OPERAND_BITS` -/
  | reserved (i : Instr) (length : Nat)
  /-- an undefined opcode of the first map (R147) -/
  | illegalFirst (opcode : Byte)
  /-- 1Fh followed by an undefined opcode of the second map (R147) -/
  | illegalSecond (opcode : Byte)
  /-- fewer bytes than the opcode asks for; never met by a step, which hands over five -/
  | truncated
  deriving DecidableEq, Repr

/-- `{h, l}`: two nibbles as one byte. -/
def join (h l : Nib) : Byte := h ++ l

/-- Bits 7:4. -/
def highNib (b : Byte) : Nib := b.extractLsb' 4 4

/-- Bits 3:0. -/
def lowNib (b : Byte) : Nib := b.extractLsb' 0 4

/-- The condition of a 4-bit code (10_state.md R37). -/
def condOf (n : Nib) : Cond :=
  match n.toNat with
  | 0 => .f
  | 1 => .lt
  | 2 => .le
  | 3 => .ule
  | 4 => .ov
  | 5 => .mi
  | 6 => .z
  | 7 => .c
  | 8 => .t
  | 9 => .ge
  | 10 => .gt
  | 11 => .ugt
  | 12 => .nov
  | 13 => .pl
  | 14 => .nz
  | _ => .nc

/-- The 4-bit code of a condition (10_state.md R37). -/
def condCode : Cond → Nib
  | .f => 0x0
  | .lt => 0x1
  | .le => 0x2
  | .ule => 0x3
  | .ov => 0x4
  | .mi => 0x5
  | .z => 0x6
  | .c => 0x7
  | .t => 0x8
  | .ge => 0x9
  | .gt => 0xA
  | .ugt => 0xB
  | .nov => 0xC
  | .pl => 0xD
  | .nz => 0xE
  | .nc => 0xF

/-- How the operand bytes B1, B2, B3 make operands: the formats of 30_encoding.md R115 to R118 by their names
there, with the instruction they belong to. -/
inductive Layout
  /-- `none`, and `r_op` whose operand is in the opcode -/
  | alone (i : Instr)
  /-- `R1`, `R2`, `IM`, `Vector`, `r_op_IM`, `r_op_RA`, `cc_op_RA`: B1 is the operand -/
  | oneByte (f : Byte → Instr)
  /-- B1 = `{r1, r2}` -/
  | r1r2 (f : Nib → Nib → Instr)
  /-- B1 = `{r2, r1}` -/
  | r2r1 (f : Nib → Nib → Instr)
  /-- B1 = `{p, bit, r1}` -/
  | pbr (f : Bool → BitNo → Nib → Instr)
  /-- B1 = R2, B2 = R1 -/
  | R2_R1 (f : Byte → Byte → Instr)
  /-- B1 = R1, B2 = IM -/
  | R1_IM (f : Byte → Byte → Instr)
  /-- B1 = `{r1, r2}`, B2 = X, r2 the base -/
  | r1r2_X (f : Nib → Nib → Byte → Instr)
  /-- B1 = `{r2, r1}`, B2 = X, r1 the base -/
  | r2r1_X (f : Nib → Byte → Nib → Instr)
  /-- B1 = `{rr1, r2}`, B2 = X, rr1 the base -/
  | rr1r2_X (f : Nib → Byte → Nib → Instr)
  /-- B1 = `{p, bit, r2}`, B2 = X -/
  | pbr_RA (f : Bool → BitNo → Nib → Byte → Instr)
  /-- `r_ER`, the working register the destination: B1 = `{r1, ER2[11:8]}`, B2 = ER2[7:0] -/
  | r_ER_dst (f : Nib → Addr → Instr)
  /-- `r_ER`, the working register the source: B1 = `{r2, ER1[11:8]}`, B2 = ER1[7:0] -/
  | r_ER_src (f : Addr → Nib → Instr)
  /-- B1 = ER[11:4], B2 = `{ER[3:0], 0h}` -/
  | ER_0 (f : Addr → Instr)
  /-- B1 = DA[15:8], B2 = DA[7:0]; also `cc_op_DA` -/
  | DA (f : Word → Instr)
  /-- B1 = ER2[11:4], B2 = `{ER2[3:0], ER1[11:8]}`, B3 = ER1[7:0] -/
  | ER2_ER1 (f : Addr → Addr → Instr)
  /-- B1 = IM, B2 = `{0h, ER1[11:8]}`, B3 = ER1[7:0] -/
  | IM_ER1 (f : Addr → Byte → Instr)

/-- How many operand bytes a format has. -/
def Layout.size : Layout → Nat
  | .alone _ => 0
  | .oneByte _ => 1
  | .r1r2 _ => 1
  | .r2r1 _ => 1
  | .pbr _ => 1
  | .R2_R1 _ => 2
  | .R1_IM _ => 2
  | .r1r2_X _ => 2
  | .r2r1_X _ => 2
  | .rr1r2_X _ => 2
  | .pbr_RA _ => 2
  | .r_ER_dst _ => 2
  | .r_ER_src _ => 2
  | .ER_0 _ => 2
  | .DA _ => 2
  | .ER2_ER1 _ => 3
  | .IM_ER1 _ => 3

/-- The polarity of `{p, bit, r}` (30_encoding.md R137). -/
def polarity (b : Byte) : Bool := b.getLsbD 7

/-- The bit number of `{p, bit, r}` (30_encoding.md R137). -/
def bitNumber (b : Byte) : BitNo := b.extractLsb' 4 3

/-- The instruction a format reads from B1, B2, B3 (bytes the format has not are ignored), and whether its fixed
nibble, if it has one, is 0. -/
def Layout.read (l : Layout) (b1 b2 b3 : Byte) : Instr × Bool :=
  match l with
  | .alone i => (i, true)
  | .oneByte f => (f b1, true)
  | .r1r2 f => (f (highNib b1) (lowNib b1), true)
  | .r2r1 f => (f (lowNib b1) (highNib b1), true)
  | .pbr f => (f (polarity b1) (bitNumber b1) (lowNib b1), true)
  | .R2_R1 f => (f b2 b1, true)
  | .R1_IM f => (f b1 b2, true)
  | .r1r2_X f => (f (highNib b1) (lowNib b1) b2, true)
  | .r2r1_X f => (f (lowNib b1) b2 (highNib b1), true)
  | .rr1r2_X f => (f (highNib b1) b2 (lowNib b1), true)
  | .pbr_RA f => (f (polarity b1) (bitNumber b1) (lowNib b1) b2, true)
  | .r_ER_dst f => (f (highNib b1) (lowNib b1 ++ b2), true)
  | .r_ER_src f => (f (lowNib b1 ++ b2) (highNib b1), true)
  | .ER_0 f => (f (b1 ++ highNib b2), decide (lowNib b2 = 0))
  | .DA f => (f (b1 ++ b2), true)
  | .ER2_ER1 f => (f (lowNib b2 ++ b3) (b1 ++ highNib b2), true)
  | .IM_ER1 f => (f (lowNib b2 ++ b3) b1, decide (highNib b2 = 0))

/-- Columns 0 to 9 and F of the first opcode map (30_encoding.md R140, R141, R143), by opcode. -/
def tableFirst : Nat → Option Layout
  | 0x00 => some (.alone .brk)
  | 0x01 => some (.oneByte .srp)
  | 0x02 => some (.r1r2 .add_r_r)
  | 0x03 => some (.r1r2 .add_r_Ir)
  | 0x04 => some (.R2_R1 .add_R_R)
  | 0x05 => some (.R2_R1 .add_R_IR)
  | 0x06 => some (.R1_IM .add_R_IM)
  | 0x07 => some (.R1_IM .add_IR_IM)
  | 0x08 => some (.ER2_ER1 .addx_ER_ER)
  | 0x09 => some (.IM_ER1 .addx_ER_IM)
  | 0x0F => some (.alone .nop)
  | 0x10 => some (.oneByte .rlc_R)
  | 0x11 => some (.oneByte .rlc_IR)
  | 0x12 => some (.r1r2 .adc_r_r)
  | 0x13 => some (.r1r2 .adc_r_Ir)
  | 0x14 => some (.R2_R1 .adc_R_R)
  | 0x15 => some (.R2_R1 .adc_R_IR)
  | 0x16 => some (.R1_IM .adc_R_IM)
  | 0x17 => some (.R1_IM .adc_IR_IM)
  | 0x18 => some (.ER2_ER1 .adcx_ER_ER)
  | 0x19 => some (.IM_ER1 .adcx_ER_IM)
  | 0x20 => some (.oneByte .inc_R)
  | 0x21 => some (.oneByte .inc_IR)
  | 0x22 => some (.r1r2 .sub_r_r)
  | 0x23 => some (.r1r2 .sub_r_Ir)
  | 0x24 => some (.R2_R1 .sub_R_R)
  | 0x25 => some (.R2_R1 .sub_R_IR)
  | 0x26 => some (.R1_IM .sub_R_IM)
  | 0x27 => some (.R1_IM .sub_IR_IM)
  | 0x28 => some (.ER2_ER1 .subx_ER_ER)
  | 0x29 => some (.IM_ER1 .subx_ER_IM)
  | 0x2F => some (.alone .atm)
  | 0x30 => some (.oneByte .dec_R)
  | 0x31 => some (.oneByte .dec_IR)
  | 0x32 => some (.r1r2 .sbc_r_r)
  | 0x33 => some (.r1r2 .sbc_r_Ir)
  | 0x34 => some (.R2_R1 .sbc_R_R)
  | 0x35 => some (.R2_R1 .sbc_R_IR)
  | 0x36 => some (.R1_IM .sbc_R_IM)
  | 0x37 => some (.R1_IM .sbc_IR_IM)
  | 0x38 => some (.ER2_ER1 .sbcx_ER_ER)
  | 0x39 => some (.IM_ER1 .sbcx_ER_IM)
  | 0x40 => some (.oneByte .da_R)
  | 0x41 => some (.oneByte .da_IR)
  | 0x42 => some (.r1r2 .or_r_r)
  | 0x43 => some (.r1r2 .or_r_Ir)
  | 0x44 => some (.R2_R1 .or_R_R)
  | 0x45 => some (.R2_R1 .or_R_IR)
  | 0x46 => some (.R1_IM .or_R_IM)
  | 0x47 => some (.R1_IM .or_IR_IM)
  | 0x48 => some (.ER2_ER1 .orx_ER_ER)
  | 0x49 => some (.IM_ER1 .orx_ER_IM)
  | 0x50 => some (.oneByte .pop_R)
  | 0x51 => some (.oneByte .pop_IR)
  | 0x52 => some (.r1r2 .and_r_r)
  | 0x53 => some (.r1r2 .and_r_Ir)
  | 0x54 => some (.R2_R1 .and_R_R)
  | 0x55 => some (.R2_R1 .and_R_IR)
  | 0x56 => some (.R1_IM .and_R_IM)
  | 0x57 => some (.R1_IM .and_IR_IM)
  | 0x58 => some (.ER2_ER1 .andx_ER_ER)
  | 0x59 => some (.IM_ER1 .andx_ER_IM)
  | 0x5F => some (.alone .wdt)
  | 0x60 => some (.oneByte .com_R)
  | 0x61 => some (.oneByte .com_IR)
  | 0x62 => some (.r1r2 .tcm_r_r)
  | 0x63 => some (.r1r2 .tcm_r_Ir)
  | 0x64 => some (.R2_R1 .tcm_R_R)
  | 0x65 => some (.R2_R1 .tcm_R_IR)
  | 0x66 => some (.R1_IM .tcm_R_IM)
  | 0x67 => some (.R1_IM .tcm_IR_IM)
  | 0x68 => some (.ER2_ER1 .tcmx_ER_ER)
  | 0x69 => some (.IM_ER1 .tcmx_ER_IM)
  | 0x6F => some (.alone .stop)
  | 0x70 => some (.oneByte .push_R)
  | 0x71 => some (.oneByte .push_IR)
  | 0x72 => some (.r1r2 .tm_r_r)
  | 0x73 => some (.r1r2 .tm_r_Ir)
  | 0x74 => some (.R2_R1 .tm_R_R)
  | 0x75 => some (.R2_R1 .tm_R_IR)
  | 0x76 => some (.R1_IM .tm_R_IM)
  | 0x77 => some (.R1_IM .tm_IR_IM)
  | 0x78 => some (.ER2_ER1 .tmx_ER_ER)
  | 0x79 => some (.IM_ER1 .tmx_ER_IM)
  | 0x7F => some (.alone .halt)
  | 0x80 => some (.oneByte .decw_RR)
  | 0x81 => some (.oneByte .decw_IR)
  | 0x82 => some (.r1r2 .lde_r_Irr)
  | 0x83 => some (.r1r2 .ldei_Ir_Irr)
  | 0x84 => some (.r_ER_dst .ldx_r_ER)
  | 0x85 => some (.r_ER_dst .ldx_Ir_ER)
  | 0x86 => some (.R2_R1 .ldx_R_IRR)
  | 0x87 => some (.R2_R1 .ldx_IR_IRR)
  | 0x88 => some (.r1r2_X .ldx_r_Xrr)
  | 0x89 => some (.rr1r2_X .ldx_Xrr_r)
  | 0x8F => some (.alone .di)
  | 0x90 => some (.oneByte .rl_R)
  | 0x91 => some (.oneByte .rl_IR)
  | 0x92 => some (.r2r1 .lde_Irr_r)
  | 0x93 => some (.r2r1 .ldei_Irr_Ir)
  | 0x94 => some (.r_ER_src .ldx_ER_r)
  | 0x95 => some (.r_ER_src .ldx_ER_Ir)
  | 0x96 => some (.R2_R1 .ldx_IRR_R)
  | 0x97 => some (.R2_R1 .ldx_IRR_IR)
  | 0x98 => some (.r1r2_X .lea_r_Xr)
  | 0x99 => some (.r1r2_X .lea_rr_Xrr)
  | 0x9F => some (.alone .ei)
  | 0xA0 => some (.oneByte .incw_RR)
  | 0xA1 => some (.oneByte .incw_IR)
  | 0xA2 => some (.r1r2 .cp_r_r)
  | 0xA3 => some (.r1r2 .cp_r_Ir)
  | 0xA4 => some (.R2_R1 .cp_R_R)
  | 0xA5 => some (.R2_R1 .cp_R_IR)
  | 0xA6 => some (.R1_IM .cp_R_IM)
  | 0xA7 => some (.R1_IM .cp_IR_IM)
  | 0xA8 => some (.ER2_ER1 .cpx_ER_ER)
  | 0xA9 => some (.IM_ER1 .cpx_ER_IM)
  | 0xAF => some (.alone .ret)
  | 0xB0 => some (.oneByte .clr_R)
  | 0xB1 => some (.oneByte .clr_IR)
  | 0xB2 => some (.r1r2 .xor_r_r)
  | 0xB3 => some (.r1r2 .xor_r_Ir)
  | 0xB4 => some (.R2_R1 .xor_R_R)
  | 0xB5 => some (.R2_R1 .xor_R_IR)
  | 0xB6 => some (.R1_IM .xor_R_IM)
  | 0xB7 => some (.R1_IM .xor_IR_IM)
  | 0xB8 => some (.ER2_ER1 .xorx_ER_ER)
  | 0xB9 => some (.IM_ER1 .xorx_ER_IM)
  | 0xBF => some (.alone .iret)
  | 0xC0 => some (.oneByte .rrc_R)
  | 0xC1 => some (.oneByte .rrc_IR)
  | 0xC2 => some (.r1r2 .ldc_r_Irr)
  | 0xC3 => some (.r1r2 .ldci_Ir_Irr)
  | 0xC4 => some (.oneByte .jp_IRR)
  | 0xC5 => some (.r1r2 .ldc_Ir_Irr)
  | 0xC7 => some (.r1r2_X .ld_r_Xr)
  | 0xC8 => some (.ER_0 .pushx_ER)
  | 0xCF => some (.alone .rcf)
  | 0xD0 => some (.oneByte .sra_R)
  | 0xD1 => some (.oneByte .sra_IR)
  | 0xD2 => some (.r2r1 .ldc_Irr_r)
  | 0xD3 => some (.r2r1 .ldci_Irr_Ir)
  | 0xD4 => some (.oneByte .call_IRR)
  | 0xD5 => some (.oneByte .bswap_R)
  | 0xD6 => some (.DA .call_DA)
  | 0xD7 => some (.r2r1_X .ld_Xr_r)
  | 0xD8 => some (.ER_0 .popx_ER)
  | 0xDF => some (.alone .scf)
  | 0xE0 => some (.oneByte .rr_R)
  | 0xE1 => some (.oneByte .rr_IR)
  | 0xE2 => some (.pbr .bit)
  | 0xE3 => some (.r1r2 .ld_r_Ir)
  | 0xE4 => some (.R2_R1 .ld_R_R)
  | 0xE5 => some (.R2_R1 .ld_R_IR)
  | 0xE6 => some (.R1_IM .ld_R_IM)
  | 0xE7 => some (.R1_IM .ld_IR_IM)
  | 0xE8 => some (.ER2_ER1 .ldx_ER_ER)
  | 0xE9 => some (.IM_ER1 .ldx_ER_IM)
  | 0xEF => some (.alone .ccf)
  | 0xF0 => some (.oneByte .swap_R)
  | 0xF1 => some (.oneByte .swap_IR)
  | 0xF2 => some (.oneByte .trap)
  | 0xF3 => some (.r1r2 .ld_Ir_r)
  | 0xF4 => some (.oneByte .mult_RR)
  | 0xF5 => some (.R2_R1 .ld_IR_R)
  | 0xF6 => some (.pbr_RA .btj_r)
  | 0xF7 => some (.pbr_RA .btj_Ir)
  | _ => none

/-- The second opcode map, after 1Fh (30_encoding.md R145), by opcode. -/
def tableSecond : Nat → Option Layout
  | 0x70 => some (.oneByte .push_IM)
  | 0xA2 => some (.r1r2 .cpc_r_r)
  | 0xA3 => some (.r1r2 .cpc_r_Ir)
  | 0xA4 => some (.R2_R1 .cpc_R_R)
  | 0xA5 => some (.R2_R1 .cpc_R_IR)
  | 0xA6 => some (.R1_IM .cpc_R_IM)
  | 0xA7 => some (.R1_IM .cpc_IR_IM)
  | 0xA8 => some (.ER2_ER1 .cpcx_ER_ER)
  | 0xA9 => some (.IM_ER1 .cpcx_ER_IM)
  | 0xC0 => some (.oneByte .srl_R)
  | 0xC1 => some (.oneByte .srl_IR)
  | 0xE8 => some (.ER2_ER1 .ldwx_ER_ER)
  | _ => none

/-- The first opcode map: for columns A to E the upper nibble is an operand (30_encoding.md R142). -/
def firstMap (op : Byte) : Option Layout :=
  match (lowNib op).toNat with
  | 0xA => some (.oneByte (.djnz (highNib op)))
  | 0xB => some (.oneByte (.jr_cc (condOf (highNib op))))
  | 0xC => some (.oneByte (.ld_r_IM (highNib op)))
  | 0xD => some (.DA (.jp_cc (condOf (highNib op))))
  | 0xE => some (.alone (.inc_r (highNib op)))
  | _ => tableFirst op.toNat

/-- The operands of an instruction after `n` opcode bytes. -/
def decodeOperands (n : Nat) (l : Layout) (operands : List Byte) : Decoded :=
  if operands.length < l.size then .truncated
  else
    let r := l.read (operands.getD 0 0) (operands.getD 1 0) (operands.getD 2 0)
    if r.2 then .ok r.1 (n + l.size) else .reserved r.1 (n + l.size)

/-- The instruction at the head of a byte list (30_encoding.md R110, R113, R150). -/
def decode : List Byte → Decoded
  | [] => .truncated
  | op :: rest =>
    if op = 0x1F then
      match rest with
      | [] => .truncated
      | op2 :: operands =>
        match tableSecond op2.toNat with
        | some l => decodeOperands 2 l operands
        | none => .illegalSecond op2
    else
      match firstMap op with
      | some l => decodeOperands 1 l rest
      | none => .illegalFirst op

/-- `{p, bit, r}` (30_encoding.md R137). -/
def bitByte (p : Bool) (b : BitNo) (r : Nib) : Byte := BitVec.ofBool p ++ b ++ r

/-- `DA[15:8], DA[7:0]` (30_encoding.md R112). -/
def wordBytes (w : Word) : List Byte := [w.extractLsb' 8 8, w.extractLsb' 0 8]

/-- `{r, ER[11:8]}, ER[7:0]` (30_encoding.md R117). -/
def nibAddrBytes (r : Nib) (a : Addr) : List Byte := [join r (a.extractLsb' 8 4), a.extractLsb' 0 8]

/-- `ER[11:4], {ER[3:0], 0h}` (30_encoding.md R117). -/
def addrZeroBytes (a : Addr) : List Byte := [a.extractLsb' 4 8, join (a.extractLsb' 0 4) 0]

/-- `ER2[11:4], {ER2[3:0], ER1[11:8]}, ER1[7:0]` (30_encoding.md R118). -/
def twoAddrBytes (er2 er1 : Addr) : List Byte :=
  [er2.extractLsb' 4 8, join (er2.extractLsb' 0 4) (er1.extractLsb' 8 4), er1.extractLsb' 0 8]

/-- `IM, {0h, ER1[11:8]}, ER1[7:0]` (30_encoding.md R118). -/
def immAddrBytes (im : Byte) (er1 : Addr) : List Byte :=
  [im, join 0 (er1.extractLsb' 8 4), er1.extractLsb' 0 8]

/-- The instruction whose words an instruction has: an alias spells another one (30_encoding.md R144). -/
def canonical (i : Instr) : Instr :=
  match i with
  | .bclr b dst => .bit false b dst
  | .bset b dst => .bit true b dst
  | .btjnz_r b src x => .btj_r true b src x
  | .btjnz_Ir b src x => .btj_Ir true b src x
  | .btjz_r b src x => .btj_r false b src x
  | .btjz_Ir b src x => .btj_Ir false b src x
  | .jp_DA target => .jp_cc .t target
  | .jr x => .jr_cc .t x
  | _ => i

/-- The bytes of an instruction, the first at the lowest address (30_encoding.md R111 to R119). An alias has the
bytes of the instruction it spells. -/
def encode : Instr → List Byte
  | .adc_r_r dst src => [0x12, join dst src]
  | .adc_r_Ir dst src => [0x13, join dst src]
  | .adc_R_R dst src => [0x14, src, dst]
  | .adc_R_IR dst src => [0x15, src, dst]
  | .adc_R_IM dst im => [0x16, dst, im]
  | .adc_IR_IM dst im => [0x17, dst, im]
  | .adcx_ER_ER dst src => 0x18 :: twoAddrBytes src dst
  | .adcx_ER_IM dst im => 0x19 :: immAddrBytes im dst
  | .add_r_r dst src => [0x02, join dst src]
  | .add_r_Ir dst src => [0x03, join dst src]
  | .add_R_R dst src => [0x04, src, dst]
  | .add_R_IR dst src => [0x05, src, dst]
  | .add_R_IM dst im => [0x06, dst, im]
  | .add_IR_IM dst im => [0x07, dst, im]
  | .addx_ER_ER dst src => 0x08 :: twoAddrBytes src dst
  | .addx_ER_IM dst im => 0x09 :: immAddrBytes im dst
  | .cp_r_r dst src => [0xA2, join dst src]
  | .cp_r_Ir dst src => [0xA3, join dst src]
  | .cp_R_R dst src => [0xA4, src, dst]
  | .cp_R_IR dst src => [0xA5, src, dst]
  | .cp_R_IM dst im => [0xA6, dst, im]
  | .cp_IR_IM dst im => [0xA7, dst, im]
  | .cpx_ER_ER dst src => 0xA8 :: twoAddrBytes src dst
  | .cpx_ER_IM dst im => 0xA9 :: immAddrBytes im dst
  | .cpc_r_r dst src => [0x1F, 0xA2, join dst src]
  | .cpc_r_Ir dst src => [0x1F, 0xA3, join dst src]
  | .cpc_R_R dst src => [0x1F, 0xA4, src, dst]
  | .cpc_R_IR dst src => [0x1F, 0xA5, src, dst]
  | .cpc_R_IM dst im => [0x1F, 0xA6, dst, im]
  | .cpc_IR_IM dst im => [0x1F, 0xA7, dst, im]
  | .cpcx_ER_ER dst src => 0x1F :: 0xA8 :: twoAddrBytes src dst
  | .cpcx_ER_IM dst im => 0x1F :: 0xA9 :: immAddrBytes im dst
  | .da_R dst => [0x40, dst]
  | .da_IR dst => [0x41, dst]
  | .dec_R dst => [0x30, dst]
  | .dec_IR dst => [0x31, dst]
  | .decw_RR dst => [0x80, dst]
  | .decw_IR dst => [0x81, dst]
  | .inc_r dst => [join dst 0xE]
  | .inc_R dst => [0x20, dst]
  | .inc_IR dst => [0x21, dst]
  | .incw_RR dst => [0xA0, dst]
  | .incw_IR dst => [0xA1, dst]
  | .mult_RR dst => [0xF4, dst]
  | .sbc_r_r dst src => [0x32, join dst src]
  | .sbc_r_Ir dst src => [0x33, join dst src]
  | .sbc_R_R dst src => [0x34, src, dst]
  | .sbc_R_IR dst src => [0x35, src, dst]
  | .sbc_R_IM dst im => [0x36, dst, im]
  | .sbc_IR_IM dst im => [0x37, dst, im]
  | .sbcx_ER_ER dst src => 0x38 :: twoAddrBytes src dst
  | .sbcx_ER_IM dst im => 0x39 :: immAddrBytes im dst
  | .sub_r_r dst src => [0x22, join dst src]
  | .sub_r_Ir dst src => [0x23, join dst src]
  | .sub_R_R dst src => [0x24, src, dst]
  | .sub_R_IR dst src => [0x25, src, dst]
  | .sub_R_IM dst im => [0x26, dst, im]
  | .sub_IR_IM dst im => [0x27, dst, im]
  | .subx_ER_ER dst src => 0x28 :: twoAddrBytes src dst
  | .subx_ER_IM dst im => 0x29 :: immAddrBytes im dst
  | .bit p b dst => [0xE2, bitByte p b dst]
  | .bclr b dst => [0xE2, bitByte false b dst]
  | .bset b dst => [0xE2, bitByte true b dst]
  | .bswap_R dst => [0xD5, dst]
  | .ccf => [0xEF]
  | .rcf => [0xCF]
  | .scf => [0xDF]
  | .tcm_r_r dst src => [0x62, join dst src]
  | .tcm_r_Ir dst src => [0x63, join dst src]
  | .tcm_R_R dst src => [0x64, src, dst]
  | .tcm_R_IR dst src => [0x65, src, dst]
  | .tcm_R_IM dst im => [0x66, dst, im]
  | .tcm_IR_IM dst im => [0x67, dst, im]
  | .tcmx_ER_ER dst src => 0x68 :: twoAddrBytes src dst
  | .tcmx_ER_IM dst im => 0x69 :: immAddrBytes im dst
  | .tm_r_r dst src => [0x72, join dst src]
  | .tm_r_Ir dst src => [0x73, join dst src]
  | .tm_R_R dst src => [0x74, src, dst]
  | .tm_R_IR dst src => [0x75, src, dst]
  | .tm_R_IM dst im => [0x76, dst, im]
  | .tm_IR_IM dst im => [0x77, dst, im]
  | .tmx_ER_ER dst src => 0x78 :: twoAddrBytes src dst
  | .tmx_ER_IM dst im => 0x79 :: immAddrBytes im dst
  | .ldc_r_Irr dst src => [0xC2, join dst src]
  | .ldc_Ir_Irr dst src => [0xC5, join dst src]
  | .ldc_Irr_r dst src => [0xD2, join src dst]
  | .ldci_Ir_Irr dst src => [0xC3, join dst src]
  | .ldci_Irr_Ir dst src => [0xD3, join src dst]
  | .lde_r_Irr dst src => [0x82, join dst src]
  | .lde_Irr_r dst src => [0x92, join src dst]
  | .ldei_Ir_Irr dst src => [0x83, join dst src]
  | .ldei_Irr_Ir dst src => [0x93, join src dst]
  | .atm => [0x2F]
  | .di => [0x8F]
  | .ei => [0x9F]
  | .halt => [0x7F]
  | .nop => [0x0F]
  | .srp im => [0x01, im]
  | .stop => [0x6F]
  | .wdt => [0x5F]
  | .clr_R dst => [0xB0, dst]
  | .clr_IR dst => [0xB1, dst]
  | .ld_r_IM dst im => [join dst 0xC, im]
  | .ld_R_IM dst im => [0xE6, dst, im]
  | .ld_IR_IM dst im => [0xE7, dst, im]
  | .ld_r_Ir dst src => [0xE3, join dst src]
  | .ld_Ir_r dst src => [0xF3, join dst src]
  | .ld_R_R dst src => [0xE4, src, dst]
  | .ld_R_IR dst src => [0xE5, src, dst]
  | .ld_IR_R dst src => [0xF5, src, dst]
  | .ld_r_Xr dst base x => [0xC7, join dst base, x]
  | .ld_Xr_r base x src => [0xD7, join src base, x]
  | .ldwx_ER_ER dst src => 0x1F :: 0xE8 :: twoAddrBytes src dst
  | .ldx_r_ER dst src => 0x84 :: nibAddrBytes dst src
  | .ldx_Ir_ER dst src => 0x85 :: nibAddrBytes dst src
  | .ldx_R_IRR dst src => [0x86, src, dst]
  | .ldx_IR_IRR dst src => [0x87, src, dst]
  | .ldx_r_Xrr dst base x => [0x88, join dst base, x]
  | .ldx_Xrr_r base x src => [0x89, join base src, x]
  | .ldx_ER_r dst src => 0x94 :: nibAddrBytes src dst
  | .ldx_ER_Ir dst src => 0x95 :: nibAddrBytes src dst
  | .ldx_IRR_R dst src => [0x96, src, dst]
  | .ldx_IRR_IR dst src => [0x97, src, dst]
  | .ldx_ER_ER dst src => 0xE8 :: twoAddrBytes src dst
  | .ldx_ER_IM dst im => 0xE9 :: immAddrBytes im dst
  | .lea_r_Xr dst base x => [0x98, join dst base, x]
  | .lea_rr_Xrr dst base x => [0x99, join dst base, x]
  | .pop_R dst => [0x50, dst]
  | .pop_IR dst => [0x51, dst]
  | .popx_ER dst => 0xD8 :: addrZeroBytes dst
  | .push_R src => [0x70, src]
  | .push_IR src => [0x71, src]
  | .push_IM im => [0x1F, 0x70, im]
  | .pushx_ER src => 0xC8 :: addrZeroBytes src
  | .and_r_r dst src => [0x52, join dst src]
  | .and_r_Ir dst src => [0x53, join dst src]
  | .and_R_R dst src => [0x54, src, dst]
  | .and_R_IR dst src => [0x55, src, dst]
  | .and_R_IM dst im => [0x56, dst, im]
  | .and_IR_IM dst im => [0x57, dst, im]
  | .andx_ER_ER dst src => 0x58 :: twoAddrBytes src dst
  | .andx_ER_IM dst im => 0x59 :: immAddrBytes im dst
  | .com_R dst => [0x60, dst]
  | .com_IR dst => [0x61, dst]
  | .or_r_r dst src => [0x42, join dst src]
  | .or_r_Ir dst src => [0x43, join dst src]
  | .or_R_R dst src => [0x44, src, dst]
  | .or_R_IR dst src => [0x45, src, dst]
  | .or_R_IM dst im => [0x46, dst, im]
  | .or_IR_IM dst im => [0x47, dst, im]
  | .orx_ER_ER dst src => 0x48 :: twoAddrBytes src dst
  | .orx_ER_IM dst im => 0x49 :: immAddrBytes im dst
  | .xor_r_r dst src => [0xB2, join dst src]
  | .xor_r_Ir dst src => [0xB3, join dst src]
  | .xor_R_R dst src => [0xB4, src, dst]
  | .xor_R_IR dst src => [0xB5, src, dst]
  | .xor_R_IM dst im => [0xB6, dst, im]
  | .xor_IR_IM dst im => [0xB7, dst, im]
  | .xorx_ER_ER dst src => 0xB8 :: twoAddrBytes src dst
  | .xorx_ER_IM dst im => 0xB9 :: immAddrBytes im dst
  | .brk => [0x00]
  | .btj_r p b src x => [0xF6, bitByte p b src, x]
  | .btj_Ir p b src x => [0xF7, bitByte p b src, x]
  | .btjnz_r b src x => [0xF6, bitByte true b src, x]
  | .btjnz_Ir b src x => [0xF7, bitByte true b src, x]
  | .btjz_r b src x => [0xF6, bitByte false b src, x]
  | .btjz_Ir b src x => [0xF7, bitByte false b src, x]
  | .call_IRR dst => [0xD4, dst]
  | .call_DA target => 0xD6 :: wordBytes target
  | .djnz dst x => [join dst 0xA, x]
  | .iret => [0xBF]
  | .jp_IRR dst => [0xC4, dst]
  | .jp_DA target => join (condCode .t) 0xD :: wordBytes target
  | .jp_cc cc target => join (condCode cc) 0xD :: wordBytes target
  | .jr x => [join (condCode .t) 0xB, x]
  | .jr_cc cc x => [join (condCode cc) 0xB, x]
  | .ret => [0xAF]
  | .trap vector => [0xF2, vector]
  | .rl_R dst => [0x90, dst]
  | .rl_IR dst => [0x91, dst]
  | .rlc_R dst => [0x10, dst]
  | .rlc_IR dst => [0x11, dst]
  | .rr_R dst => [0xE0, dst]
  | .rr_IR dst => [0xE1, dst]
  | .rrc_R dst => [0xC0, dst]
  | .rrc_IR dst => [0xC1, dst]
  | .sra_R dst => [0xD0, dst]
  | .sra_IR dst => [0xD1, dst]
  | .srl_R dst => [0x1F, 0xC0, dst]
  | .srl_IR dst => [0x1F, 0xC1, dst]
  | .swap_R dst => [0xF0, dst]
  | .swap_IR dst => [0xF1, dst]

/-- The number of bytes of an instruction (30_encoding.md R114). -/
def Decoded.length? : Decoded → Option Nat
  | .ok _ n => some n
  | .reserved _ n => some n
  | .illegalFirst _ => none
  | .illegalSecond _ => none
  | .truncated => none

/-- The instruction read, whether or not its fixed nibble is 0. -/
def Decoded.instr? : Decoded → Option Instr
  | .ok i _ => some i
  | .reserved i _ => some i
  | .illegalFirst _ => none
  | .illegalSecond _ => none
  | .truncated => none

/-- The `n` bytes of the number `w`, most significant first. -/
def bytesOfNumber : Nat → Nat → List Byte
  | 0, _ => []
  | n + 1, w => BitVec.ofNat 8 (w / 256 ^ n) :: bytesOfNumber n w

/-- The list filled up with zero bytes to the longest instruction, five bytes. -/
def padded (bytes : List Byte) : List Byte := bytes ++ List.replicate (5 - bytes.length) 0x00

/-- The bytes, in memory order, of the instruction spec/opcode_table.json numbers `w` in `nbits` bits. The table
writes the first byte leftmost, so most significant (30_encoding.md R146). Where the bytes taken so are no
instruction of that length, `w` is read with its least significant byte first. notes/assumptions/22.md. -/
def tableBytes (nbits w : Nat) : List Byte :=
  let bytes := bytesOfNumber (nbits / 8) w
  if (decode (padded bytes)).length? = some (nbits / 8) then bytes else bytes.reverse

/-- The instruction the decoder reads from an instruction numbered as spec/opcode_table.json numbers it. -/
def decodeTableWord (nbits w : Nat) : Option Instr := (decode (padded (tableBytes nbits w))).instr?

end Sys2Proof
end

