-- ==== Sys2Proof/Config.lean ====
section
/-!
DEFINITION. What an implementation fixes and what the manual leaves open.

* Free values: constants with no body. Nothing can evaluate one, so whatever is proved holds for every
  value (93_implementation_defined.md part 1, treatment `any value`).
* `Product`: the implementation parameters of 00_scope.md R5 as plain data. `State` carries one record of
  them that no step writes, so a statement about every state holds for every product
  (notes/assumptions/2.md).
-/

namespace Sys2Proof

/-- Which open value is drawn: one name for each place of the specification that leaves a value open.
Together with the step counter it makes two draws of one run independent. -/
inductive Draw
  /-- byte `k` of the instruction at the Program Counter, when a store may not have reached it yet
  (93_implementation_defined.md U6) -/
  | fetch (k : Nat)
  /-- operand read number `k` of the instruction, of an unavailable register (U1) -/
  | operand (k : Nat)
  /-- the C flag after BSWAP, SWAP and an undefined DA (U2, U4) -/
  | flagC
  /-- the Z flag after an undefined DA (U4) -/
  | flagZ
  /-- the S flag after an undefined DA (U4) -/
  | flagS
  /-- the V flag after DA and SWAP (U2) -/
  | flagV
  /-- the destination byte of an undefined DA (U4) -/
  | daResult
  /-- the instructions left of an atomic block in which HALT or STOP was executed (U8) -/
  | atomicLeft
  /-- whether a stack access at the unavailable address `a` goes on (U5) -/
  | stackAt (a : Addr)
  /-- whether the pair access numbered `k` takes its least significant byte first, where another agent can see the
  order (92_eei_decisions.md D10) -/
  | pairOrder (k : Nat)
  /-- whether the register at `a` keeps what it held over a later Reset (70_reset_and_hazards.md R414) -/
  | survives (a : Nat)
  deriving DecidableEq, Repr

/-- An open byte, by step counter and place. notes/assumptions/8.md. -/
opaque Config.freeByte : Nat → Draw → Byte

/-- An open bit, by step counter and place. notes/assumptions/8.md. -/
opaque Config.freeBit : Nat → Draw → Bool

/-- An open count, by step counter and place. notes/assumptions/14.md. -/
opaque Config.freeCount : Nat → Draw → Nat

/-- What a peripheral or I/O control register presents after the core writes to it: by step counter,
address, value presented before, value written. 20_memory.md R79: a write "may have any product-specific
effect". notes/assumptions/7.md. -/
opaque Config.platformByte : Nat → Addr → Byte → Byte → Byte

/-- The addresses `first` to `last`, both included. -/
structure Region where
  first : Nat
  last : Nat
  deriving DecidableEq, Repr

/-- Access right of a control register (00_scope.md R5 `CTRL_ACCESS`). -/
inductive Access
  | readWrite
  | readOnly
  | writeOnly
  deriving DecidableEq, Repr

/-- What the hardware does with a register-pair address that is odd (20_memory.md R76 `ODD_PAIR`). The
specification's third value, `refuse`, is no behaviour of hardware. notes/assumptions/11.md. -/
inductive OddPair
  /-- bit 0 of the pair address is treated as 0 -/
  | forceEven
  /-- the bytes at the address and at the next one, modulo 4096 -/
  | asIs
  deriving DecidableEq, Repr

/-- What a non-zero value in the fixed 0h nibble of the `IM_ER1` and `ER_0` formats does (30_encoding.md
R119 `RESERVED_OPERAND_BITS`). notes/assumptions/12.md. -/
inductive ReservedBits
  /-- the instruction executes as if the nibble were 0 -/
  | ignore
  /-- the Illegal Instruction Trap -/
  | illegal
  deriving DecidableEq, Repr

/-- The V flag after SRL (47_rotate_shift.md R347 `SRL_V`). -/
inductive SrlV
  | zero
  | signChanged
  deriving DecidableEq, Repr

/-- The eight bits of FLAGS (10_state.md R31). -/
inductive Flag
  | c | z | s | v | d | h | f2 | f1
  deriving DecidableEq, Repr

/-- `FLAG_BIT`: the place of each flag in the FLAGS byte, no two in one place (10_state.md R33). -/
structure FlagLayout where
  c : Fin 8
  z : Fin 8
  s : Fin 8
  v : Fin 8
  d : Fin 8
  h : Fin 8
  f2 : Fin 8
  f1 : Fin 8
  distinct : [c, z, s, v, d, h, f2, f1].Nodup
  deriving DecidableEq, Repr

/-- The bit of flag `f`. -/
def FlagLayout.bitOf (l : FlagLayout) : Flag → Fin 8
  | .c => l.c
  | .z => l.z
  | .s => l.s
  | .v => l.v
  | .d => l.d
  | .h => l.h
  | .f2 => l.f2
  | .f1 => l.f1

/-- The default of `FLAG_BIT`: C, Z, S, V, D, H, F2, F1 from bit 7 down (10_state.md R33). PRESUMED,
notes/assumptions/1.md. -/
def FlagLayout.family : FlagLayout where
  c := 7
  z := 6
  s := 5
  v := 4
  d := 3
  h := 2
  f2 := 1
  f1 := 0
  distinct := by decide

/-- What can end Halt or Stop mode besides a Reset, which always does (43_cpu_control.md R243, R247 `HALT_WAKE`,
`STOP_WAKE`; 60_exceptions.md R377). notes/assumptions/21.md. -/
inductive WakeEvent
  /-- a granted interrupt: the mode ends by the entry -/
  | grantedInterrupt
  /-- an offered request that IRQCTL[7] masks: execution goes on after the HALT or STOP -/
  | maskedRequest
  /-- a time-out of the Watchdog Timer that enters through its vector -/
  | watchdogTimeout
  deriving DecidableEq, Repr

/-- What a time-out of the Watchdog Timer does (60_exceptions.md R381). notes/assumptions/37.md. -/
inductive TimeoutAction
  /-- there is none -/
  | never
  /-- a Reset -/
  | reset
  /-- entry through the vector at 0004h: with or without the three-byte frame, masked by IRQCTL[7] or not, and with
  IRQCTL[7] cleared or not -/
  | vector (pushesFrame maskable clearsIrqe : Bool)
  deriving DecidableEq, Repr

/-- `WDT_MODEL` (43_cpu_control.md R248). notes/assumptions/37.md. -/
structure WatchdogModel where
  /-- the timer is enabled after a Reset (10_state.md R56) -/
  onAtReset : Bool
  /-- the ticks (`State.tick`) from an enable or refresh within which no time-out comes -/
  earliest : Nat
  /-- what a time-out does -/
  action : TimeoutAction
  deriving DecidableEq, Repr

/-- What BRK does (46_program_control.md R311 `BRK_ACTION`). -/
inductive BrkAction
  | nop
  | endOfRun
  deriving DecidableEq, Repr

/-- The implementation parameters of 00_scope.md R5. -/
structure Product where
  /-- `RF_AVAILABLE` for 000h to FFBh; FFCh to FFFh and IRQCTL at FCFh always exist -/
  rfAvailable : List Region
  /-- `PM_AVAILABLE` -/
  pmAvailable : List Region
  /-- `PM_WRITABLE` -/
  pmWritable : List Region
  /-- `DM_AVAILABLE` -/
  dmAvailable : List Region
  /-- `CTRL_ACCESS`: the read-only control registers of F00h to FFBh -/
  readOnly : List Region
  /-- `CTRL_ACCESS`: the write-only control registers of F00h to FFBh -/
  writeOnly : List Region
  /-- `IRQ_VECTORS`: even Program Memory addresses from 0008h -/
  irqVectors : List Word
  /-- `FLAG_BIT` -/
  flagBit : FlagLayout
  /-- `RESET_RP` -/
  resetRp : Byte
  /-- `RESET_FLAGS`: a FLAGS byte of which only C, Z, S, V, D, H count -/
  resetFlags : Byte
  /-- `RESET_IRQE` -/
  resetIrqe : Bool
  /-- `TRAP_CLEARS_IRQE` -/
  trapClearsIrqe : Bool
  /-- `IRQ_ENTRY_CLEARS_IRQE` -/
  irqEntryClearsIrqe : Bool
  /-- `BITOPS_WRITE_FLAGS` -/
  bitopsWriteFlags : Bool
  /-- `SRL_V` -/
  srlV : SrlV
  /-- `ODD_PAIR` -/
  oddPair : OddPair
  /-- `ODD_LDWX` -/
  oddLdwx : OddPair
  /-- `RESERVED_OPERAND_BITS` -/
  reservedBits : ReservedBits
  /-- `BRK_ACTION` -/
  brkAction : BrkAction
  /-- `HALT_WAKE` less Reset, which is in every such set -/
  haltWake : List WakeEvent
  /-- `STOP_WAKE` less Reset, which is in every such set -/
  stopWake : List WakeEvent
  /-- `WDT_MODEL` -/
  watchdog : WatchdogModel
  /-- `DMA_AGENT`: whether a DMA controller is present -/
  dmaAgent : Bool
  deriving DecidableEq, Repr

/-- The product of `State.reset`: every address exists, every byte of Program Memory can be written, no
interrupt source, and the defaults of 92_eei_decisions.md section 2 where it gives a behaviour of hardware.
No statement rests on it. notes/assumptions/2.md. -/
def Product.reference : Product where
  rfAvailable := [⟨0x000, 0xFFB⟩]
  pmAvailable := [⟨0x0000, 0xFFFF⟩]
  pmWritable := [⟨0x0000, 0xFFFF⟩]
  dmAvailable := [⟨0x0000, 0xFFFF⟩]
  readOnly := []
  writeOnly := []
  irqVectors := []
  flagBit := .family
  resetRp := 0x00
  resetFlags := 0x00
  resetIrqe := false
  trapClearsIrqe := false
  irqEntryClearsIrqe := true
  bitopsWriteFlags := false
  srlV := .zero
  oddPair := .forceEven
  oddLdwx := .forceEven
  reservedBits := .ignore
  brkAction := .nop
  haltWake := [.grantedInterrupt]
  stopWake := []
  watchdog := { onAtReset := false, earliest := 0, action := .never }
  dmaAgent := false

end Sys2Proof
end

