-- ==== Sys2Proof/Machine/Flags.lean ====
section
/-!
DEFINITION. The Flags Register and every flag computation of the specification: addition and subtraction
(40_arithmetic.md R172, R173), increments (R184 to R187), logic (45_logical.md R297), rotates and shifts
(47_rotate_shift.md R341, R349), Table 24 of DA (40_arithmetic.md R183) and the condition codes
(10_state.md R37).
-/

namespace Sys2Proof.Machine

/-- The value of flag `f` in the FLAGS byte `b`. -/
def getFlag (l : FlagLayout) (f : Flag) (b : Byte) : Bool := b.getLsbD (l.bitOf f).val

/-- The FLAGS byte `b` with flag `f` set to `x` and every other flag as it was. -/
def setFlag (l : FlagLayout) (f : Flag) (x : Bool) (b : Byte) : Byte :=
  if x then b ||| (1#8 <<< (l.bitOf f).val) else b &&& ~~~(1#8 <<< (l.bitOf f).val)

/-- What an instruction does to the six status flags: `none` where the flag is unaffected
(00_scope.md R12). No instruction names F1 or F2 (10_state.md R32). -/
structure FlagUpdate where
  c : Option Bool := none
  z : Option Bool := none
  s : Option Bool := none
  v : Option Bool := none
  d : Option Bool := none
  h : Option Bool := none
  deriving DecidableEq, Repr

/-- The new value `u` gives flag `f`, if any. -/
def updateOf (u : FlagUpdate) : Flag → Option Bool
  | .c => u.c
  | .z => u.z
  | .s => u.s
  | .v => u.v
  | .d => u.d
  | .h => u.h
  | .f2 => none
  | .f1 => none

/-- Flag `f` of `b` set to `x`, or left alone. -/
def putFlag (l : FlagLayout) (f : Flag) (x : Option Bool) (b : Byte) : Byte :=
  match x with
  | none => b
  | some x => setFlag l f x b

/-- The FLAGS byte after the update. -/
def applyUpdate (l : FlagLayout) (u : FlagUpdate) (b : Byte) : Byte :=
  putFlag l .h u.h (putFlag l .d u.d (putFlag l .v u.v (putFlag l .s u.s (putFlag l .z u.z (putFlag l .c u.c b)))))

/-- The status bits of `status` with the user flags of `user`: what Reset does to FLAGS, since F1 and F2
"are unaffected by Reset" (10_state.md R32, R56). -/
def mergeUserFlags (l : FlagLayout) (status user : Byte) : Byte :=
  setFlag l .f1 (getFlag l .f1 user) (setFlag l .f2 (getFlag l .f2 user) status)

/-- The result of an operation with the flags it writes. -/
structure AluResult where
  value : Byte
  flags : FlagUpdate
  deriving DecidableEq, Repr

/-- A carry or borrow as the number 0 or 1. -/
def bitNat (b : Bool) : Nat := if b then 1 else 0

/-- `r = (d + s + c) mod 256` with `add_flags(d, s, c)` (40_arithmetic.md R172, 10_state.md R35). -/
def addWith (c : Bool) (d s : Byte) : AluResult :=
  let sum := d.toNat + s.toNat + bitNat c
  let r := BitVec.ofNat 8 sum
  { value := r
    flags :=
      { c := some (decide (255 < sum))
        z := some (decide (r = 0))
        s := some r.msb
        v := some (decide (d.msb = s.msb) && decide (r.msb ≠ d.msb))
        d := some false
        h := some (decide (15 < d.toNat % 16 + s.toNat % 16 + bitNat c)) } }

/-- `r = (d - s - c) mod 256` with `sub_flags(d, s, c)` (40_arithmetic.md R173, 10_state.md R35). -/
def subWith (c : Bool) (d s : Byte) : AluResult :=
  let r := BitVec.ofNat 8 (d.toNat + 512 - s.toNat - bitNat c)
  { value := r
    flags :=
      { c := some (decide (d.toNat < s.toNat + bitNat c))
        z := some (decide (r = 0))
        s := some r.msb
        v := some (decide (d.msb ≠ s.msb) && decide (r.msb = s.msb))
        d := some true
        h := some (decide (d.toNat % 16 < s.toNat % 16 + bitNat c)) } }

/-- The compare flags: C, Z, S, V of the subtraction; D and H unaffected (40_arithmetic.md R178). -/
def compareWith (c : Bool) (d s : Byte) : AluResult :=
  let r := subWith c d s
  { r with flags := { r.flags with d := none, h := none } }

/-- Compare with carry: Z is sticky, `Z <- (r = 0) and Z_before` (40_arithmetic.md R179). -/
def compareCarry (l : FlagLayout) (before : Byte) (d s : Byte) : AluResult :=
  let r := compareWith (getFlag l .c before) d s
  { r with flags := { r.flags with z := some (decide (r.value = 0) && getFlag l .z before) } }

/-- A logical result: Z, S from the result, V reset; C, D, H unaffected (45_logical.md R297). -/
def logic (r : Byte) : AluResult :=
  { value := r, flags := { z := some (decide (r = 0)), s := some r.msb, v := some false } }

/-- AND (45_logical.md R290) and TM (41_bit_manipulation.md R219). -/
def logicalAnd (d s : Byte) : AluResult := logic (d &&& s)

/-- OR (45_logical.md R293). -/
def logicalOr (d s : Byte) : AluResult := logic (d ||| s)

/-- XOR (45_logical.md R295). -/
def logicalXor (d s : Byte) : AluResult := logic (d ^^^ s)

/-- COM (45_logical.md R292). -/
def complement (d : Byte) : AluResult := logic (~~~d)

/-- TCM: `(NOT dst) AND src` (41_bit_manipulation.md R217). -/
def testComplement (d s : Byte) : AluResult := logic (~~~d &&& s)

/-- INC: C, D, H unaffected, V set when 7Fh becomes 80h (40_arithmetic.md R186). -/
def increment (d : Byte) : AluResult :=
  let r := d + 1
  { value := r, flags := { z := some (decide (r = 0)), s := some r.msb, v := some (decide (d = 0x7F)) } }

/-- DEC: C, D, H unaffected, V set when 80h becomes 7Fh (40_arithmetic.md R184). -/
def decrement (d : Byte) : AluResult :=
  let r := d - 1
  { value := r, flags := { z := some (decide (r = 0)), s := some r.msb, v := some (decide (d = 0x80)) } }

/-- INCW: Z, S, V of the 16-bit result (40_arithmetic.md R187, 90_conflicts.md C10). -/
def incrementWord (w : Word) : Word × FlagUpdate :=
  let r := w + 1
  (r, { z := some (decide (r = 0)), s := some r.msb, v := some (decide (w = 0x7FFF)) })

/-- DECW: Z, S, V of the 16-bit result (40_arithmetic.md R185, 90_conflicts.md C10). -/
def decrementWord (w : Word) : Word × FlagUpdate :=
  let r := w - 1
  (r, { z := some (decide (r = 0)), s := some r.msb, v := some (decide (w = 0x8000)) })

/-- The four rotates: C is the bit that left the register, V is set when the sign bit changed
(47_rotate_shift.md R341). -/
def rotated (out : Bool) (d r : Byte) : AluResult :=
  { value := r
    flags := { c := some out, z := some (decide (r = 0)), s := some r.msb, v := some (decide (r.msb ≠ d.msb)) } }

/-- `{d[6:0], b}`: one place to the left with `b` coming in. -/
def shiftLeftIn (d : Byte) (b : Bool) : Byte := (d <<< 1) ||| (if b then 0x01 else 0x00)

/-- `{b, d[7:1]}`: one place to the right with `b` coming in. -/
def shiftRightIn (b : Bool) (d : Byte) : Byte := (d >>> 1) ||| (if b then 0x80 else 0x00)

/-- RL (47_rotate_shift.md R342). -/
def rotateLeft (d : Byte) : AluResult := rotated d.msb d (shiftLeftIn d d.msb)

/-- RLC (47_rotate_shift.md R343). -/
def rotateLeftCarry (c : Bool) (d : Byte) : AluResult := rotated d.msb d (shiftLeftIn d c)

/-- RR (47_rotate_shift.md R344). -/
def rotateRight (d : Byte) : AluResult := rotated (d.getLsbD 0) d (shiftRightIn (d.getLsbD 0) d)

/-- RRC (47_rotate_shift.md R345). -/
def rotateRightCarry (c : Bool) (d : Byte) : AluResult := rotated (d.getLsbD 0) d (shiftRightIn c d)

/-- SRA: V reset (47_rotate_shift.md R346). -/
def shiftRightArithmetic (d : Byte) : AluResult :=
  let r := shiftRightIn d.msb d
  { value := r, flags := { c := some (d.getLsbD 0), z := some (decide (r = 0)), s := some r.msb, v := some false } }

/-- SRL: S reset; V by the parameter `SRL_V` (47_rotate_shift.md R347). -/
def shiftRightLogical (p : SrlV) (d : Byte) : AluResult :=
  let r := shiftRightIn false d
  { value := r
    flags :=
      { c := some (d.getLsbD 0)
        z := some (decide (r = 0))
        s := some false
        v := some (match p with | .zero => false | .signChanged => d.msb) } }

/-- SWAP: C and V undefined, so free (47_rotate_shift.md R348, 93_implementation_defined.md U2). -/
def swapNibbles (tick : Nat) (d : Byte) : AluResult :=
  let r := d.extractLsb' 0 4 ++ d.extractLsb' 4 4
  { value := r
    flags :=
      { c := some (Config.freeBit tick .flagC)
        z := some (decide (r = 0))
        s := some r.msb
        v := some (Config.freeBit tick .flagV) } }

/-- BSWAP: C undefined, so free; V reset (41_bit_manipulation.md R213). -/
def reverseBits (tick : Nat) (d : Byte) : AluResult :=
  let r := d.reverse
  { value := r
    flags :=
      { c := some (Config.freeBit tick .flagC)
        z := some (decide (r = 0))
        s := some r.msb
        v := some false } }

/-- BIT: bit `b` of `d` replaced by `p`; flags only under `BITOPS_WRITE_FLAGS` (41_bit_manipulation.md R210,
90_conflicts.md C1). -/
def replaceBit (writeFlags p : Bool) (b : BitNo) (d : Byte) : AluResult :=
  let mask := 1#8 <<< b.toNat
  let r := if p then d ||| mask else d &&& ~~~mask
  { value := r
    flags := if writeFlags then { z := some (decide (r = 0)), s := some r.msb, v := some false } else {} }

/-- One row of Table 24 (40_arithmetic.md R183). -/
structure DaRow where
  /-- the D flag: which instruction preceded -/
  d : Bool
  /-- the C flag before -/
  c : Bool
  /-- bits 7:4 of the destination, least and greatest -/
  hiMin : Nat
  hiMax : Nat
  /-- the H flag before -/
  h : Bool
  /-- bits 3:0 of the destination, least and greatest -/
  loMin : Nat
  loMax : Nat
  /-- the number added to the byte -/
  added : Byte
  /-- the C flag after -/
  carry : Bool
  deriving DecidableEq, Repr

/-- Table 24, row by row (40_arithmetic.md R183). -/
def daTable : List DaRow :=
  [ ⟨false, false, 0x0, 0x9, false, 0x0, 0x9, 0x00, false⟩,
    ⟨false, false, 0x0, 0x8, false, 0xA, 0xF, 0x06, false⟩,
    ⟨false, false, 0x0, 0x9, true, 0x0, 0x3, 0x06, false⟩,
    ⟨false, false, 0xA, 0xF, false, 0x0, 0x9, 0x60, true⟩,
    ⟨false, false, 0x9, 0xF, false, 0xA, 0xF, 0x66, true⟩,
    ⟨false, false, 0xA, 0xF, true, 0x0, 0x3, 0x66, true⟩,
    ⟨false, true, 0x0, 0x2, false, 0x0, 0x9, 0x60, true⟩,
    ⟨false, true, 0x0, 0x2, false, 0xA, 0xF, 0x66, true⟩,
    ⟨false, true, 0x0, 0x3, true, 0x0, 0x3, 0x66, true⟩,
    ⟨true, false, 0x0, 0x9, false, 0x0, 0x9, 0x00, false⟩,
    ⟨true, false, 0x0, 0x8, true, 0x6, 0xF, 0xFA, false⟩,
    ⟨true, true, 0x7, 0xF, false, 0x0, 0x9, 0xA0, true⟩,
    ⟨true, true, 0x6, 0xF, true, 0x6, 0xF, 0x9A, true⟩ ]

/-- The row's conditions hold for the flags `f` and the destination byte `b`. -/
def daMatches (l : FlagLayout) (f b : Byte) (row : DaRow) : Bool :=
  decide (row.d = getFlag l .d f) && decide (row.c = getFlag l .c f) && decide (row.h = getFlag l .h f) &&
    decide (row.hiMin ≤ b.toNat / 16) && decide (b.toNat / 16 ≤ row.hiMax) &&
    decide (row.loMin ≤ b.toNat % 16) && decide (b.toNat % 16 ≤ row.loMax)

/-- DA: the matching row's number is added and its carry taken; V is free. Where no row matches, the
destination and C, Z, S are free too (40_arithmetic.md R182, 93_implementation_defined.md U2, U4). -/
def decimalAdjust (tick : Nat) (l : FlagLayout) (f b : Byte) : AluResult :=
  match daTable.find? (daMatches l f b) with
  | some row =>
    let r := b + row.added
    { value := r
      flags :=
        { c := some row.carry
          z := some (decide (r = 0))
          s := some r.msb
          v := some (Config.freeBit tick .flagV) } }
  | none =>
    { value := Config.freeByte tick .daResult
      flags :=
        { c := some (Config.freeBit tick .flagC)
          z := some (Config.freeBit tick .flagZ)
          s := some (Config.freeBit tick .flagS)
          v := some (Config.freeBit tick .flagV) } }

/-- Whether the condition holds for the FLAGS byte `f` (10_state.md R37, Table 2). -/
def condHolds (cc : Cond) (l : FlagLayout) (f : Byte) : Bool :=
  let c := getFlag l .c f
  let z := getFlag l .z f
  let s := getFlag l .s f
  let v := getFlag l .v f
  match cc with
  | .f => false
  | .lt => s != v
  | .le => z || (s != v)
  | .ule => c || z
  | .ov => v
  | .mi => s
  | .z => z
  | .c => c
  | .t => true
  | .ge => s == v
  | .gt => !(z || (s != v))
  | .ugt => !c && !z
  | .nov => !v
  | .pl => !s
  | .nz => !z
  | .nc => !c

end Sys2Proof.Machine
end

