-- ==== Sys2Proof/Machine/Memory.lean ====
section
/-!
DEFINITION. One memory as a list of (address, byte) pairs in canonical form: addresses strictly rising, no
entry equal to the byte an unlisted address reads as (`blank`). The three spaces of 20_memory.md R70 are
three such lists with their own `blank`.
-/

namespace Sys2Proof.Machine

/-- What an unlisted Register File byte reads as (notes/assumptions/3.md). -/
def rfBlank : Byte := 0x00

/-- What an unlisted Program Memory or Data Memory byte reads as: as an unavailable one does (20_memory.md
R82, R85; notes/assumptions/4.md). -/
def memBlank : Byte := 0xFF

/-- The byte at address `a`. -/
def readCell (blank : Byte) : List Host.Cell → Nat → Byte
  | [], _ => blank
  | (b, v) :: m, a => if b = a then v else readCell blank m a

/-- The memory without an entry for address `a`. -/
def eraseCell : List Host.Cell → Nat → List Host.Cell
  | [], _ => []
  | (b, v) :: m, a => if b = a then m else (b, v) :: eraseCell m a

/-- The memory with the entry `(a, v)`, put where the addresses keep rising. -/
def insertCell : List Host.Cell → Nat → Byte → List Host.Cell
  | [], a, v => [(a, v)]
  | (b, w) :: m, a, v =>
    if a < b then (a, v) :: (b, w) :: m
    else if a = b then (a, v) :: m
    else (b, w) :: insertCell m a v

/-- The memory after a store of `v` at `a`, in canonical form. -/
def writeCell (blank : Byte) (m : List Host.Cell) (a : Nat) (v : Byte) : List Host.Cell :=
  if v = blank then eraseCell m a else insertCell m a v

/-- All addresses of `m` are above `lo` and rise strictly, and no entry is `blank`. -/
def wfAbove (blank : Byte) : Nat → List Host.Cell → Bool
  | _, [] => true
  | lo, (a, v) :: m => decide (lo ≤ a) && decide (v ≠ blank) && wfAbove blank (a + 1) m

/-- `m` is in canonical form. -/
def Memory.wf (blank : Byte) (m : List Host.Cell) : Bool := wfAbove blank 0 m

/-- Address `a` lies in one of the regions. -/
def covers (rs : List Region) (a : Nat) : Bool :=
  rs.any fun r => decide (r.first ≤ a) && decide (a ≤ r.last)

/-- `MemRead(PM, a, 1)` and `MemRead(DM, a, 1)`: the stored byte, or FFh where the address does not exist
(20_memory.md R82, R85). -/
def memoryByte (available : List Region) (m : List Host.Cell) (a : Word) : Byte :=
  if covers available a.toNat then readCell memBlank m a.toNat else 0xFF

/-- The two bytes at `a` and the next address, most significant first (20_memory.md R74). -/
def memoryWord (available : List Region) (m : List Host.Cell) (a : Word) : Word :=
  memoryByte available m a ++ memoryByte available m (a + 1)

end Sys2Proof.Machine
end

