-- ==== Sys2Proof/Machine/State.lean ====
section
/-!
DEFINITION. The state of the machine (10_state.md R20), the reasons a step can stop, and the state after
Reset (10_state.md R56, 70_reset_and_hazards.md R412). INVENTORY.md lists every field with its rule.
-/

namespace Sys2Proof.Machine

/-- The run mode (10_state.md R49). -/
inductive Mode
  | run
  | halt
  | stop
  deriving DecidableEq, Repr

/-- A byte of one of the three address spaces (20_memory.md R70). -/
inductive Location
  | register (a : Addr)
  | program (a : Word)
  | data (a : Word)
  deriving DecidableEq, Repr

/-- One move of an agent outside the core, between two byte accesses of an instruction or between two instructions
(00_scope.md R13; notes/assumptions/19.md). -/
inductive Move
  /-- a peripheral makes its register `a` present the byte `v` (20_memory.md R91) -/
  | present (a : Addr) (v : Byte)
  /-- the DMA controller asks to read the byte at `l` (20_memory.md R91) -/
  | dmaRead (l : Location)
  /-- the DMA controller asks to write the byte `v` at `l` (20_memory.md R91) -/
  | dmaWrite (l : Location) (v : Byte)
  /-- Reset is asserted (60_exceptions.md R377, 70_reset_and_hazards.md R411) -/
  | reset
  deriving DecidableEq, Repr

/-- What the core is signalled at the start of a step of its own. -/
inductive Signal
  /-- nothing -/
  | quiet
  /-- the Interrupt Controller offers the vector address `v` (60_exceptions.md R364) -/
  | offer (v : Word)
  /-- the Watchdog Timer times out (60_exceptions.md R381) -/
  | timeout
  deriving DecidableEq, Repr

/-- One step of the machine: an outside agent's move, or the core's step with what it is signalled and what outside
agents do before its first, second, ... byte access (00_scope.md R15; notes/assumptions/19.md). -/
inductive Input
  | agent (m : Move)
  | core (signal : Signal) (midway : List (List Move))
  deriving DecidableEq, Repr

/-- What the agents outside the core are told. -/
inductive Output
  /-- the Interrupt Controller: the offered vector address `v` was taken (60_exceptions.md R364) -/
  | acknowledge (v : Word)
  /-- the DMA controller: the byte at `l` is `v` (20_memory.md R91) -/
  | dmaByte (l : Location) (v : Byte)
  deriving DecidableEq, Repr

/-- Stops of the machine itself. -/
inductive Fault
  /-- Raised by BRK where the parameter `BRK_ACTION` is `end_of_run`: the On-Chip Debugger takes control and
  the run ends with the Program Counter at `pc`, after the BRK (46_program_control.md R311,
  70_reset_and_hazards.md R420). Safe: nothing is claimed of what the debugger does. -/
  | debuggerBreak (pc : Word)
  deriving DecidableEq, Repr

/-- What the model makes no claim about. -/
inductive Refusal
  /-- Raised by `exec` for an instruction without a meaning. Safe: nothing is claimed. -/
  | notModelled (mnemonic : String)
  /-- Raised by a push with the Stack Pointer at 000h: "an unpredictable operation" (10_state.md R45,
  93_implementation_defined.md U5). Safe: nothing is claimed. -/
  | stackOverflow
  /-- Raised by a pop that would step the Stack Pointer above FFFh: "an unpredictable operation"
  (10_state.md R45, 93_implementation_defined.md U5). Safe: nothing is claimed. -/
  | stackUnderflow
  /-- Raised by a push or a pop at the address `a` that the product does not have, where the free value
  `Config.freeBit` of `Draw.stackAt` does not let it go on as 20_memory.md R93 says: "an unpredictable operation"
  (10_state.md R45, 93_implementation_defined.md U5; notes/assumptions/9.md). Safe: nothing is claimed. -/
  | stackUnavailable (a : Addr)
  /-- Raised by the read of a Write-Only control register (20_memory.md R80, 93_implementation_defined.md
  U3). Safe: nothing is claimed. -/
  | readOfWriteOnly (a : Addr)
  /-- Raised by the write of a Read-Only control register (20_memory.md R80, 93_implementation_defined.md
  U3). Safe: nothing is claimed. -/
  | writeOfReadOnly (a : Addr)
  deriving DecidableEq, Repr

/-- The state: every element of 10_state.md R20, then what the manual implies of the Fetch Unit, then the
model's own fields. -/
structure State where
  /-- Program Counter (10_state.md R21) -/
  pc : Word
  /-- FLAGS at FFCh (10_state.md R31) -/
  flags : Byte
  /-- RP at FFDh (10_state.md R38) -/
  rp : Byte
  /-- SPH at FFEh (10_state.md R40, R41) -/
  sph : Byte
  /-- SPL at FFFh (10_state.md R40) -/
  spl : Byte
  /-- IRQCTL at FCFh (10_state.md R46) -/
  irqctl : Byte
  /-- the Register File from 000h to FFBh without FCFh: general-purpose registers, and from F00h what each
  peripheral and I/O control register presents (10_state.md R24 to R26) -/
  rf : List Host.Cell
  /-- Program Memory (20_memory.md R81) -/
  pm : List Host.Cell
  /-- Data Memory (20_memory.md R84) -/
  dm : List Host.Cell
  /-- the atomic-block counter (10_state.md R48) -/
  atm : Nat
  /-- the run mode (10_state.md R49) -/
  mode : Mode
  /-- the Watchdog Timer is enabled (10_state.md R50) -/
  wdtOn : Bool
  /-- Program Memory bytes stored to since the last taken branch, each with the byte the Fetch Unit may still
  hold for it (20_memory.md R89; notes/assumptions/13.md) -/
  stale : List Host.Cell
  /-- `tick` when the Watchdog Timer was last enabled or refreshed: where its count restarted
  (43_cpu_control.md R248) -/
  wdtStart : Nat
  /-- what the agents outside the core do in each coming step (the model's own) -/
  inputs : List Input
  /-- what the agents outside the core have been told, newest first (the model's own; 60_exceptions.md R364) -/
  outputs : List Output
  /-- what the agents outside the core do before each coming byte access of the instruction under way; empty between
  two steps (the model's own; 20_memory.md R91) -/
  midway : List (List Move)
  /-- steps and DMA moves so far, the argument of the free values (the model's own) -/
  tick : Nat
  /-- the implementation parameters, which no step writes (the model's own) -/
  product : Product
  deriving DecidableEq, Repr

/-- The machine right after the first Reset of a product whose memories hold `pm` and `dm`
(70_reset_and_hazards.md R412; the values the manual does not give: notes/assumptions/3.md to 6.md). -/
def State.powerUp (product : Product) (pm dm : List Host.Cell) : State where
  pc := memoryWord product.pmAvailable pm 0x0002
  flags := mergeUserFlags product.flagBit product.resetFlags 0x00
  rp := product.resetRp
  sph := 0x0F
  spl := 0x00
  irqctl := if product.resetIrqe then 0x80 else 0x00
  rf := []
  pm := pm
  dm := dm
  atm := 0
  mode := .run
  wdtOn := product.watchdog.onAtReset
  stale := []
  wdtStart := 0
  inputs := []
  outputs := []
  midway := []
  tick := 0
  product := product

/-- The machine right after Reset with nothing loaded. -/
def State.reset : State := State.powerUp Product.reference [] []

end Sys2Proof.Machine
end

