-- ==== Sys2Proof/Machine/Ops.lean ====
section
/-!
DEFINITION. The named operations over the state: one update per field, Register File access
(20_memory.md R78 to R80), register pairs (R75 to R77), Program and Data Memory (R82 to R85), the stack
(10_state.md R42 to R45), and taking and returning from an exception (46_program_control.md R325, R326,
R318; 60_exceptions.md R368, R372).

A byte access of the core is preceded by what the agents outside the core do in that place (20_memory.md R91): the
operations named `access…` and `write…` hand on the state that leaves. An operation that can meet a behaviour the model
makes no claim about, or a Reset, answers in `Res`.
-/

namespace Sys2Proof.Machine

/-- Why an operation gives no answer: the model makes no claim about what it met, or a Reset ended it in the state
`s`, with what it had written by then (60_exceptions.md R377). -/
inductive Stop
  | refusal (r : Refusal)
  | reset (s : State)
  deriving DecidableEq, Repr

/-- A value, or what ends the step. -/
abbrev Res (α : Type) := Except Stop α

/-- The step ends in a refusal. -/
def refuse {α : Type} (r : Refusal) : Res α := .error (.refusal r)

/-- The outcome of one instruction. -/
abbrev Out := Host.Outcome State Fault Refusal

/-- Reset as a later event: everything as at power-up but the memories, the user flags, and what is the model's own;
each register of the Register File keeps what it held or takes its power-up value (10_state.md R56;
70_reset_and_hazards.md R412, R414; notes/assumptions/20.md). -/
def resetAgain (s : State) : State :=
  { State.powerUp s.product s.pm s.dm with
    flags := mergeUserFlags s.product.flagBit s.product.resetFlags s.flags
    rf := s.rf.filter fun c => Config.freeBit s.tick (.survives c.1)
    wdtStart := s.tick + 1
    inputs := s.inputs
    outputs := s.outputs
    tick := s.tick + 1 }

/-- The outcome of an operation that answers the next state. -/
def finish : Res State → Out
  | .ok s => .next s
  | .error (.refusal r) => .refused r
  | .error (.reset s) => .next (resetAgain s)

/-! ### One update per field -/

def withPc (v : Word) (s : State) : State := { s with pc := v }
def withFlags (v : Byte) (s : State) : State := { s with flags := v }
def withRp (v : Byte) (s : State) : State := { s with rp := v }
def withSph (v : Byte) (s : State) : State := { s with sph := v }
def withSpl (v : Byte) (s : State) : State := { s with spl := v }
def withIrqctl (v : Byte) (s : State) : State := { s with irqctl := v }
def withRf (v : List Host.Cell) (s : State) : State := { s with rf := v }
def withPm (v : List Host.Cell) (s : State) : State := { s with pm := v }
def withDm (v : List Host.Cell) (s : State) : State := { s with dm := v }
def withAtm (v : Nat) (s : State) : State := { s with atm := v }
def withMode (v : Mode) (s : State) : State := { s with mode := v }
def withWdtOn (v : Bool) (s : State) : State := { s with wdtOn := v }
def withStale (v : List Host.Cell) (s : State) : State := { s with stale := v }
def withWdtStart (v : Nat) (s : State) : State := { s with wdtStart := v }
def withOutputs (v : List Output) (s : State) : State := { s with outputs := v }
def withMidway (v : List (List Move)) (s : State) : State := { s with midway := v }
def withInputs (v : List Input) (s : State) : State := { s with inputs := v }
def withTick (v : Nat) (s : State) : State := { s with tick := v }

/-! ### Flags, Stack Pointer, interrupt enable -/

/-- The value of flag `f` (10_state.md R31). -/
def flag (f : Flag) (s : State) : Bool := getFlag s.product.flagBit f s.flags

/-- The flags named by `u` take their new values, in the register's then-current value (10_state.md R55). -/
def updateFlags (u : FlagUpdate) (s : State) : State := withFlags (applyUpdate s.product.flagBit u s.flags) s

/-- The 12-bit Stack Pointer `{SPH[3:0], SPL[7:0]}` (10_state.md R40). -/
def stackPointer (s : State) : Addr := s.sph.extractLsb' 0 4 ++ s.spl

/-- `SP <- v`, SPH[7:4] kept (10_state.md R41). -/
def setStackPointer (v : Addr) (s : State) : State :=
  withSpl (v.extractLsb' 0 8) (withSph (s.sph.extractLsb' 4 4 ++ v.extractLsb' 8 4) s)

/-- `IRQE`, bit 7 of IRQCTL (10_state.md R46). -/
def interruptsEnabled (s : State) : Bool := s.irqctl.getLsbD 7

/-- `IRQCTL[7] <- b`, bits 6:0 kept (10_state.md R46). -/
def setInterruptsEnabled (b : Bool) (s : State) : State :=
  withIrqctl (if b then s.irqctl ||| 0x80 else s.irqctl &&& 0x7F) s

/-! ### The Register File -/

/-- FLAGS, RP, SPH, SPL or IRQCTL (10_state.md R30, R46). -/
def isCoreRegister (a : Addr) : Bool := decide (0xFFC ≤ a.toNat) || decide (a = 0xFCF)

/-- A peripheral or I/O control register (10_state.md R26). -/
def isPlatform (a : Addr) : Bool := decide (0xF00 ≤ a.toNat) && !isCoreRegister a

/-- `RF_AVAILABLE(a)` (00_scope.md R5). -/
def available (a : Addr) (s : State) : Bool := isCoreRegister a || covers s.product.rfAvailable a.toNat

/-- `CTRL_ACCESS(a)` (00_scope.md R5): only control registers of F00h to FFBh are restricted. -/
def accessRight (a : Addr) (s : State) : Access :=
  if isPlatform a then
    if covers s.product.readOnly a.toNat then .readOnly
    else if covers s.product.writeOnly a.toNat then .writeOnly
    else .readWrite
  else .readWrite

/-- What the read of address `a` answers as operand read number `k` of the instruction (20_memory.md R78);
an unavailable address answers a free value. -/
def registerValue (k : Nat) (a : Addr) (s : State) : Byte :=
  if a = 0xFFC then s.flags
  else if a = 0xFFD then s.rp
  else if a = 0xFFE then s.sph
  else if a = 0xFFF then s.spl
  else if a = 0xFCF then s.irqctl
  else if available a s then readCell rfBlank s.rf a.toNat
  else Config.freeByte s.tick (.operand k)

/-- What the write of `v` to address `a` leaves (20_memory.md R79): an unavailable address is not changed,
a platform register presents what the platform makes of the write. -/
def storeRegister (a : Addr) (v : Byte) (s : State) : State :=
  if a = 0xFFC then withFlags v s
  else if a = 0xFFD then withRp v s
  else if a = 0xFFE then withSph v s
  else if a = 0xFFF then withSpl v s
  else if a = 0xFCF then withIrqctl v s
  else if !available a s then s
  else if isPlatform a then
    let presented := Config.platformByte s.tick a (readCell rfBlank s.rf a.toNat) v
    withRf (writeCell rfBlank s.rf a.toNat presented) s
  else withRf (writeCell rfBlank s.rf a.toNat v) s

/-! ### Program Memory and Data Memory -/

/-- `MemRead(PM, a, 1)` as data or vector (20_memory.md R82). -/
def programByte (a : Word) (s : State) : Byte := memoryByte s.product.pmAvailable s.pm a

/-- `MemRead(PM, a, 2)`, most significant byte first (20_memory.md R74). -/
def programWord (a : Word) (s : State) : Word := memoryWord s.product.pmAvailable s.pm a

/-- The byte the Fetch Unit may still hold for Program Memory address `a`, if it was stored to since the last
taken branch. -/
def staleByte : List Host.Cell → Nat → Option Byte
  | [], _ => none
  | (b, v) :: m, a => if b = a then some v else staleByte m a

/-- `MemWrite(PM, a, 1, v)`: no effect where the address is unavailable (20_memory.md R82) or not writable
(R83); else the byte is stored and the Fetch Unit may still hold the old one (R89). -/
def writeProgram (a : Word) (v : Byte) (s : State) : State :=
  if covers s.product.pmAvailable a.toNat && covers s.product.pmWritable a.toNat then
    let old := readCell memBlank s.pm a.toNat
    let held :=
      match staleByte s.stale a.toNat with
      | none => (a.toNat, old) :: s.stale
      | some _ => s.stale
    withStale held (withPm (writeCell memBlank s.pm a.toNat v) s)
  else s

/-- `MemRead(DM, a, 1)` (20_memory.md R85). -/
def dataByte (a : Word) (s : State) : Byte := memoryByte s.product.dmAvailable s.dm a

/-- `MemWrite(DM, a, 1, v)`: no effect where the address is unavailable (20_memory.md R85). -/
def writeData (a : Word) (v : Byte) (s : State) : State :=
  if covers s.product.dmAvailable a.toNat then withDm (writeCell memBlank s.dm a.toNat v) s else s

/-! ### Agents outside the core -/

/-- A peripheral makes its own register present `v`: only a register of F00h to FFBh that the product has, and
never IRQCTL (20_memory.md R91, notes/assumptions/7.md). -/
def present (a : Addr) (v : Byte) (s : State) : State :=
  if isPlatform a && available a s then withRf (writeCell rfBlank s.rf a.toNat v) s else s

/-- The byte the DMA controller reads at `l`: as the core would, a register as operand read number 11. -/
def byteAt (l : Location) (s : State) : Byte :=
  match l with
  | .register a => registerValue 11 a s
  | .program a => programByte a s
  | .data a => dataByte a s

/-- What the DMA controller's write of `v` at `l` leaves: what the core's would. -/
def storeAt (l : Location) (v : Byte) (s : State) : State :=
  match l with
  | .register a => storeRegister a v s
  | .program a => writeProgram a v s
  | .data a => writeData a v s

/-- The DMA controller may move: there is one, and no atomic block is open (43_cpu_control.md R240). -/
def dmaGranted (s : State) : Bool := s.product.dmaAgent && decide (s.atm = 0)

/-- One move of an agent outside the core; a DMA request that is not granted does nothing (20_memory.md R91,
60_exceptions.md R377). -/
def makeMove (m : Move) (s : State) : Res State :=
  match m with
  | .present a v => .ok (present a v s)
  | .dmaRead l =>
    .ok (if dmaGranted s then withTick (s.tick + 1) (withOutputs (.dmaByte l (byteAt l s) :: s.outputs) s) else s)
  | .dmaWrite l v => .ok (if dmaGranted s then withTick (s.tick + 1) (storeAt l v s) else s)
  | .reset => .error (.reset s)

/-- Moves one after the other. -/
def makeMoves : List Move → State → Res State
  | [], s => .ok s
  | m :: ms, s => do
    let s1 ← makeMove m s
    makeMoves ms s1

/-- What the agents outside the core do before the core's next byte access (20_memory.md R91). -/
def gap (s : State) : Res State :=
  match s.midway with
  | [] => .ok s
  | ms :: rest => makeMoves ms (withMidway rest s)

/-! ### Byte accesses of the core -/

/-- `MemRead(RF, a, 1)`, operand read number `k`; refused for a Write-Only register (20_memory.md R80). -/
def accessRegister (k : Nat) (a : Addr) (s : State) : Res (Byte × State) := do
  let s1 ← gap s
  if accessRight a s1 = .writeOnly then refuse (.readOfWriteOnly a) else .ok (registerValue k a s1, s1)

/-- `MemWrite(RF, a, 1, v)`; refused for a Read-Only register (20_memory.md R80). -/
def writeRegister (a : Addr) (v : Byte) (s : State) : Res State := do
  let s1 ← gap s
  if accessRight a s1 = .readOnly then refuse (.writeOfReadOnly a) else .ok (storeRegister a v s1)

/-- One byte of Program Memory or Data Memory, read by `fetch` (20_memory.md R82, R85). -/
def accessMemory (fetch : Word → State → Byte) (a : Word) (s : State) : Res (Byte × State) := do
  let s1 ← gap s
  .ok (fetch a s1, s1)

/-- One byte of Program Memory or Data Memory, written by `store` (20_memory.md R82, R83, R85). -/
def writeMemory (store : Word → Byte → State → State) (a : Word) (v : Byte) (s : State) : Res State := do
  let s1 ← gap s
  .ok (store a v s1)

/-- A vector: the two bytes of Program Memory from `a` on, most significant first (60_exceptions.md R368). -/
def accessVector (a : Word) (s : State) : Res (Word × State) := do
  let (hi, s1) ← accessMemory programByte a s
  let (lo, s2) ← accessMemory programByte (a + 1) s1
  .ok (hi ++ lo, s2)

/-! ### Register pairs -/

/-- The address of the pair's most significant byte: `a` itself where it is even; by the parameter where it is
odd (20_memory.md R76). -/
def pairAddress (p : OddPair) (a : Addr) : Addr :=
  match p with
  | .forceEven => a &&& 0xFFE
  | .asIs => a

/-- Whether the pair access numbered `k` takes the least significant byte first. The order is most significant byte
first (20_memory.md R77), but any where a DMA controller can see it (92_eei_decisions.md D10). -/
def lowFirst (k : Nat) (s : State) : Bool :=
  s.product.dmaAgent && !s.midway.isEmpty && Config.freeBit s.tick (.pairOrder k)

/-- The two bytes from `a` on, as operand reads `k` and `k + 1` (20_memory.md R75, R77). -/
def accessTwo (k : Nat) (a : Addr) (s : State) : Res (Word × State) :=
  if lowFirst k s then do
    let (lo, s1) ← accessRegister (k + 1) (a + 1) s
    let (hi, s2) ← accessRegister k a s1
    .ok (hi ++ lo, s2)
  else do
    let (hi, s1) ← accessRegister k a s
    let (lo, s2) ← accessRegister (k + 1) (a + 1) s1
    .ok (hi ++ lo, s2)

/-- The two bytes from `a` on, written (20_memory.md R75, R77). -/
def writeTwo (a : Addr) (w : Word) (s : State) : Res State :=
  if lowFirst 12 s then do
    let s1 ← writeRegister (a + 1) (w.extractLsb' 0 8) s
    writeRegister a (w.extractLsb' 8 8) s1
  else do
    let s1 ← writeRegister a (w.extractLsb' 8 8) s
    writeRegister (a + 1) (w.extractLsb' 0 8) s1

/-- `pair[a]` on the right of an assignment (00_scope.md R9). -/
def accessPair (k : Nat) (a : Addr) (s : State) : Res (Word × State) :=
  accessTwo k (pairAddress s.product.oddPair a) s

/-- `pair[a]` on the left of an assignment (00_scope.md R9). -/
def writePair (a : Addr) (w : Word) (s : State) : Res State := writeTwo (pairAddress s.product.oddPair a) w s

/-- The value of a register access, without the state it leaves. -/
def readRegister (k : Nat) (a : Addr) (s : State) : Res Byte := (accessRegister k a s).map Prod.fst

/-- The value of a pair access, without the state it leaves. -/
def readPair (k : Nat) (a : Addr) (s : State) : Res Word := (accessPair k a s).map Prod.fst

/-! ### Control transfer -/

/-- A taken branch: the Program Counter takes the target and the Fetch Unit drops what it prefetched
(70_reset_and_hazards.md R443). -/
def branchTo (target : Word) (s : State) : State := withStale [] (withPc target s)

/-! ### The stack -/

/-- A stack access at `a` goes on: the product has the register, or the open bit lets the access be what any access
there is (10_state.md R45, 20_memory.md R93, notes/assumptions/9.md). -/
def stackGoesOn (a : Addr) (s : State) : Bool := available a s || Config.freeBit s.tick (.stackAt a)

/-- `push8(v)` (10_state.md R42); a step below 000h is unpredictable, and so is an address that is not available
(R45). -/
def push8 (v : Byte) (s : State) : Res State :=
  if stackPointer s = 0 then refuse .stackOverflow
  else if stackGoesOn (stackPointer s - 1) s then
    writeRegister (stackPointer s - 1) v (setStackPointer (stackPointer s - 1) s)
  else refuse (.stackUnavailable (stackPointer s - 1))

/-- `push16(v)`: low byte first, so that the most significant byte ends at the lower address (10_state.md
R44). -/
def push16 (v : Word) (s : State) : Res State := do
  let s1 ← push8 (v.extractLsb' 0 8) s
  push8 (v.extractLsb' 8 8) s1

/-- The byte at the Stack Pointer, as operand read number `k` (10_state.md R43, R45). -/
def accessStack (k : Nat) (s : State) : Res (Byte × State) :=
  if stackGoesOn (stackPointer s) s then accessRegister k (stackPointer s) s
  else refuse (.stackUnavailable (stackPointer s))

/-- `SP <- SP + 1`; a step above FFFh is unpredictable (10_state.md R43, R45). -/
def releaseByte (s : State) : Res State :=
  if stackPointer s = 0xFFF then refuse .stackUnderflow else .ok (setStackPointer (stackPointer s + 1) s)

/-- `pop8()` as operand read number `k` (10_state.md R43). -/
def pop8 (k : Nat) (s : State) : Res (Byte × State) := do
  let (v, s1) ← accessStack k s
  let s2 ← releaseByte s1
  .ok (v, s2)

/-- `pop16()`: most significant byte first (10_state.md R44). -/
def pop16 (k : Nat) (s : State) : Res (Word × State) := do
  let (hi, s1) ← pop8 k s
  let (lo, s2) ← pop8 (k + 1) s1
  .ok (hi ++ lo, s2)

/-! ### Exceptions -/

/-- The one entry sequence of TRAP, the Illegal Instruction Trap and interrupts: `ret` and FLAGS are pushed,
IRQCTL[7] is cleared where `clears` says so, and control goes to the address stored at `vector`
(46_program_control.md R325, R326; 60_exceptions.md R368, R372). -/
def takeException (ret vector : Word) (clears : Bool) (s : State) : Res State := do
  let s1 ← push16 ret s
  let s2 ← push8 s1.flags s1
  let (t, s3) ← accessVector vector (if clears then setInterruptsEnabled false s2 else s2)
  .ok (branchTo t s3)

/-- The Illegal Instruction Trap for the instruction whose first byte is at `a` (60_exceptions.md R372). -/
def illegalInstruction (a : Word) (s : State) : Res State := do
  let s1 ← takeException a 0x0006 s.product.trapClearsIrqe s
  .ok (withAtm 0 s1)

/-- The Interrupt Controller is told that its offer `v` was taken (60_exceptions.md R364). -/
def acknowledge (v : Word) (s : State) : State := withOutputs (.acknowledge v :: s.outputs) s

/-- Interrupt entry through the granted vector address `v` (60_exceptions.md R364, R368). -/
def interruptEntry (v : Word) (s : State) : Res State := do
  let s1 ← takeException s.pc v s.product.irqEntryClearsIrqe (acknowledge v s)
  .ok (withMode .run s1)

/-- Entry through the Watchdog Timer's vector at 0004h, with the three-byte frame or without (60_exceptions.md R381;
notes/assumptions/37.md). -/
def timeoutEntry (pushesFrame clears : Bool) (s : State) : Res State :=
  if pushesFrame then do
    let s1 ← takeException s.pc 0x0004 clears s
    .ok (withMode .run s1)
  else do
    let (t, s1) ← accessVector 0x0004 (if clears then setInterruptsEnabled false s else s)
    .ok (withMode .run (branchTo t s1))

/-- IRET: FLAGS and the Program Counter are popped and IRQCTL[7] is set (46_program_control.md R318). -/
def returnFromException (s : State) : Res State := do
  let (f, s1) ← pop8 0 s
  let (t, s2) ← pop16 1 (withFlags f s1)
  .ok (branchTo t (setInterruptsEnabled true s2))

end Sys2Proof.Machine
end

