-- ==== Sys2Proof/Machine/Operands.lean ====
section
/-!
DEFINITION. Every operand form (30_encoding.md R120 to R134) and the shapes instructions share: find the
addresses, read the operands, write the destination, then the implicit updates (R130).

Where an outside agent moves between two byte accesses, each shape hands the state on. Addresses are formed with the
Register Pointer of the state in which the instruction starts (R130).

Operand reads of one instruction are numbered so that two reads of unavailable registers are two free values:
0 and 1 the destination's pointer, 2 and 3 the destination, 4 and 5 the source's pointer, 6 and 7 the source,
8 to 10 the auto-increments of LDCI and LDEI.

R130 orders addresses before values and gives no order among the addresses or among the values. The orders each shape
takes there are the model's choice (DESIGN CHOICE, notes/assumptions/38.md).
-/

namespace Sys2Proof.Machine

/-- `wr(n) = {RP[3:0], RP[7:4], n}` (30_encoding.md R120). -/
def workingAddress (n : Nib) (s : State) : Addr := s.rp.extractLsb' 0 4 ++ s.rp.extractLsb' 4 4 ++ n

/-- `pg(a) = {RP[3:0], a}` (30_encoding.md R121). -/
def pageAddress (a : Byte) (s : State) : Addr := s.rp.extractLsb' 0 4 ++ a

/-- `ea8(a)` (30_encoding.md R122). -/
def escaped8 (a : Byte) (s : State) : Addr :=
  if a.extractLsb' 4 4 = 0xE#4 then workingAddress (a.extractLsb' 0 4) s else pageAddress a s

/-- `ea12(a)` (30_encoding.md R123). -/
def escaped12 (a : Addr) (s : State) : Addr :=
  if a.extractLsb' 4 8 = 0xEE#8 then workingAddress (a.extractLsb' 0 4) s
  else if a.extractLsb' 8 4 = 0xE#4 then pageAddress (a.extractLsb' 0 8) s
  else a

/-- Bits 11:0 of a 16-bit Register File pointer (30_encoding.md R128, 44_load.md R270). -/
def linearAddress (w : Word) : Addr := w.extractLsb' 0 12

/-- An operand in the Register File. -/
inductive Place
  /-- `r`, `rr`: a working register or pair (R124) -/
  | working (n : Nib)
  /-- `Ir`: through a working register (R126) -/
  | viaWorking (n : Nib)
  /-- `R`, `RR`: an escaped 8-bit address (R125) -/
  | short (a : Byte)
  /-- `IR`: through the register at an escaped 8-bit address (R127) -/
  | viaShort (a : Byte)
  /-- `ER`: an escaped 12-bit address (R129) -/
  | extended (a : Addr)
  /-- `ER` of LDX 84h, 85h, 94h, 95h: a 12-bit address as it stands (R129) -/
  | linear (a : Addr)
  /-- `IRR` of LDX 86h, 87h, 96h, 97h: through a pair at an escaped 8-bit address (R128) -/
  | viaPair (a : Byte)
  /-- `X(r)`: the 8-bit sum on the current page (R131) -/
  | indexed (n : Nib) (x : Byte)
  /-- `X(rr)`: the 16-bit sum with the sign-extended index (R131) -/
  | pairIndexed (n : Nib) (x : Byte)
  deriving DecidableEq, Repr

/-- The 12-bit address of a place of an instruction that starts in the state `s0`; pointers are read as operand reads
`k` and `k + 1`. -/
def accessPlace (k : Nat) (p : Place) (s0 s : State) : Res (Addr × State) :=
  match p with
  | .working n => .ok (workingAddress n s0, s)
  | .viaWorking n => do
    let (q, s1) ← accessRegister k (workingAddress n s0) s
    .ok (pageAddress q s0, s1)
  | .short a => .ok (escaped8 a s0, s)
  | .viaShort a => do
    let (q, s1) ← accessRegister k (escaped8 a s0) s
    .ok (pageAddress q s0, s1)
  | .extended a => .ok (escaped12 a s0, s)
  | .linear a => .ok (a, s)
  | .viaPair a => do
    let (w, s1) ← accessPair k (escaped8 a s0) s
    .ok (linearAddress w, s1)
  | .indexed n x => do
    let (b, s1) ← accessRegister k (workingAddress n s0) s
    .ok (pageAddress (b + x) s0, s1)
  | .pairIndexed n x => do
    let (w, s1) ← accessPair k (workingAddress n s0) s
    .ok (linearAddress (w + x.signExtend 16), s1)

/-- The 12-bit address of a place of an instruction that starts in `s`. -/
def placeAddress (k : Nat) (p : Place) (s : State) : Res Addr := (accessPlace k p s s).map Prod.fst

/-- A source operand: a register or immediate data (R134). -/
inductive Source
  | place (p : Place)
  | imm (v : Byte)
  deriving DecidableEq, Repr

/-- The value of a source operand of an instruction that starts in the state `s0`. -/
def accessSource (src : Source) (s0 s : State) : Res (Byte × State) :=
  match src with
  | .place p => do
    let (a, s1) ← accessPlace 4 p s0 s
    accessRegister 6 a s1
  | .imm v => .ok (v, s)

/-- The value of a source operand of an instruction that starts in `s`. -/
def sourceValue (src : Source) (s : State) : Res Byte := (accessSource src s s).map Prod.fst

/-- `pc + sext_16(X)`, with `pc` the address after the instruction (30_encoding.md R132). -/
def relativeTarget (x : Byte) (s : State) : Word := s.pc + x.signExtend 16

/-! ### Shared instruction shapes -/

/-- `dst <- f(dst, src)` with flags: ADD, ADC, SUB, SBC, AND, OR, XOR (40_arithmetic.md R170, R171). The source's value is
read before the destination's: DESIGN CHOICE, notes/assumptions/38.md. -/
def combine (f : Byte → Byte → AluResult) (dst : Place) (src : Source) (s : State) : Res State := do
  let (da, s1) ← accessPlace 0 dst s s
  let (v, s2) ← accessSource src s s1
  let (d, s3) ← accessRegister 2 da s2
  let s4 ← writeRegister da (f d v).value s3
  .ok (updateFlags (f d v).flags s4)

/-- Flags of `f(dst, src)` only: CP, CPC, TM, TCM (40_arithmetic.md R178, 41_bit_manipulation.md R217). The source's value
is read before the destination's: DESIGN CHOICE, notes/assumptions/38.md. -/
def test (f : Byte → Byte → AluResult) (dst : Place) (src : Source) (s : State) : Res State := do
  let (da, s1) ← accessPlace 0 dst s s
  let (v, s2) ← accessSource src s s1
  let (d, s3) ← accessRegister 2 da s2
  .ok (updateFlags (f d v).flags s3)

/-- `dst <- f(dst)` with flags (47_rotate_shift.md R340). -/
def modify (f : Byte → AluResult) (dst : Place) (s : State) : Res State := do
  let (da, s1) ← accessPlace 0 dst s s
  let (d, s2) ← accessRegister 2 da s1
  let s3 ← writeRegister da (f d).value s2
  .ok (updateFlags (f d).flags s3)

/-- `dst <- f(dst)` on a register pair with flags (40_arithmetic.md R185, R187). -/
def modifyPair (f : Word → Word × FlagUpdate) (dst : Place) (s : State) : Res State := do
  let (da, s1) ← accessPlace 0 dst s s
  let (w, s2) ← accessPair 2 da s1
  let s3 ← writePair da (f w).1 s2
  .ok (updateFlags (f w).2 s3)

/-- `dst <- src` without flags (44_load.md R261, R269). Where both operands go through pointers (R270, 87h and 97h) the
destination's pointer is read before the source's: DESIGN CHOICE, notes/assumptions/38.md. -/
def load (dst : Place) (src : Source) (s : State) : Res State := do
  let (da, s1) ← accessPlace 0 dst s s
  let (v, s2) ← accessSource src s s1
  writeRegister da v s2

/-- `push8(src)`; the source is read before SP moves (44_load.md R276). -/
def pushFrom (src : Source) (s : State) : Res State := do
  let (v, s1) ← accessSource src s s
  push8 v s1

/-- `dst <- @SP; SP <- SP + 1`: the address is found before SP moves, the destination is written before the
implicit update of SP (44_load.md R274, 10_state.md R55). SP is taken after the destination's pointer is read: DESIGN
CHOICE, notes/assumptions/38.md. -/
def popInto (dst : Place) (s : State) : Res State := do
  let (da, s1) ← accessPlace 0 dst s s
  let (v, s2) ← accessStack 6 s1
  let s3 ← writeRegister da v s2
  releaseByte s3

/-- `r <- r + 1; rr <- rr + 1`, each on current contents, at the addresses found when the instruction started
(42_block_transfer.md R233). -/
def incrementPointers (ra rra : Addr) (s : State) : Res State := do
  let (p, s1) ← accessRegister 8 ra s
  let s2 ← writeRegister ra (p + 1) s1
  let (w, s3) ← accessPair 9 rra s2
  writePair rra (w + 1) s3

/-- `dst <- mem[rr]`, the memory read by `fetch` (42_block_transfer.md R232, R234). The register-side pointer is read
before the pair with the memory address: DESIGN CHOICE, notes/assumptions/38.md. -/
def loadFromMemory (fetch : Word → State → Byte) (dst : Place) (rr : Nib) (s : State) : Res State := do
  let (da, s1) ← accessPlace 0 dst s s
  let (a, s2) ← accessPair 4 (workingAddress rr s) s1
  let (v, s3) ← accessMemory fetch a s2
  writeRegister da v s3

/-- `mem[rr] <- src`, the memory written by `store` (42_block_transfer.md R232, R234). The pair with the memory address is
read before the register-side pointer: DESIGN CHOICE, notes/assumptions/38.md. -/
def storeToMemory (store : Word → Byte → State → State) (rr : Nib) (src : Place) (s : State) : Res State := do
  let (a, s1) ← accessPair 0 (workingAddress rr s) s
  let (v, s2) ← accessSource (.place src) s s1
  writeMemory store a v s2

/-- `pc <- target` if `taken`, else the next instruction. -/
def branchIf (taken : Bool) (target : Word) (s : State) : State :=
  if taken then branchTo target s else s

/-- Jump if bit `b` of the register at `p` equals `want` (46_program_control.md R313). -/
def branchOnBit (want : Bool) (b : BitNo) (p : Place) (x : Byte) (s : State) : Res State := do
  let (v, s1) ← accessSource (.place p) s s
  .ok (branchIf (v.getLsbD b.toNat == want) (relativeTarget x s) s1)

end Sys2Proof.Machine
end

