-- ==== Sys2Proof/Machine/Arithmetic.lean ====
section
/-!
DEFINITION. The arithmetic instructions (40_arithmetic.md), one definition each.
-/

namespace Sys2Proof.Machine

/-- `pair[da] <- reg[da] * reg[da + 1]`, no flag (40_arithmetic.md R188). -/
def multiply (dst : Place) (s : State) : Res State := do
  let (da, s1) ← accessPlace 0 dst s s
  let (w, s2) ← accessPair 2 da s1
  writePair da (BitVec.ofNat 16 ((w.extractLsb' 8 8).toNat * (w.extractLsb' 0 8).toNat)) s2

/-- `ADC r1, r2` (40_arithmetic.md R174). -/
def execAdc_r_r (dst src : Nib) (s : State) : Out :=
  finish (combine (addWith (flag .c s)) (.working dst) (.place (.working src)) s)

/-- `ADC r1, @r2` (40_arithmetic.md R174). -/
def execAdc_r_Ir (dst src : Nib) (s : State) : Out :=
  finish (combine (addWith (flag .c s)) (.working dst) (.place (.viaWorking src)) s)

/-- `ADC R1, R2` (40_arithmetic.md R174). -/
def execAdc_R_R (dst src : Byte) (s : State) : Out :=
  finish (combine (addWith (flag .c s)) (.short dst) (.place (.short src)) s)

/-- `ADC R1, @R2` (40_arithmetic.md R174). -/
def execAdc_R_IR (dst src : Byte) (s : State) : Out :=
  finish (combine (addWith (flag .c s)) (.short dst) (.place (.viaShort src)) s)

/-- `ADC R1, IM` (40_arithmetic.md R174). -/
def execAdc_R_IM (dst im : Byte) (s : State) : Out :=
  finish (combine (addWith (flag .c s)) (.short dst) (.imm im) s)

/-- `ADC @R1, IM` (40_arithmetic.md R174). -/
def execAdc_IR_IM (dst im : Byte) (s : State) : Out :=
  finish (combine (addWith (flag .c s)) (.viaShort dst) (.imm im) s)

/-- `ADCX ER1, ER2` (40_arithmetic.md R175). -/
def execAdcx_ER_ER (dst src : Addr) (s : State) : Out :=
  finish (combine (addWith (flag .c s)) (.extended dst) (.place (.extended src)) s)

/-- `ADCX ER1, IM` (40_arithmetic.md R175). -/
def execAdcx_ER_IM (dst : Addr) (im : Byte) (s : State) : Out :=
  finish (combine (addWith (flag .c s)) (.extended dst) (.imm im) s)

/-- `ADD r1, r2` (40_arithmetic.md R176). -/
def execAdd_r_r (dst src : Nib) (s : State) : Out :=
  finish (combine (addWith false) (.working dst) (.place (.working src)) s)

/-- `ADD r1, @r2` (40_arithmetic.md R176). -/
def execAdd_r_Ir (dst src : Nib) (s : State) : Out :=
  finish (combine (addWith false) (.working dst) (.place (.viaWorking src)) s)

/-- `ADD R1, R2` (40_arithmetic.md R176). -/
def execAdd_R_R (dst src : Byte) (s : State) : Out :=
  finish (combine (addWith false) (.short dst) (.place (.short src)) s)

/-- `ADD R1, @R2` (40_arithmetic.md R176). -/
def execAdd_R_IR (dst src : Byte) (s : State) : Out :=
  finish (combine (addWith false) (.short dst) (.place (.viaShort src)) s)

/-- `ADD R1, IM` (40_arithmetic.md R176). -/
def execAdd_R_IM (dst im : Byte) (s : State) : Out :=
  finish (combine (addWith false) (.short dst) (.imm im) s)

/-- `ADD @R1, IM` (40_arithmetic.md R176). -/
def execAdd_IR_IM (dst im : Byte) (s : State) : Out :=
  finish (combine (addWith false) (.viaShort dst) (.imm im) s)

/-- `ADDX ER1, ER2` (40_arithmetic.md R177). -/
def execAddx_ER_ER (dst src : Addr) (s : State) : Out :=
  finish (combine (addWith false) (.extended dst) (.place (.extended src)) s)

/-- `ADDX ER1, IM` (40_arithmetic.md R177). -/
def execAddx_ER_IM (dst : Addr) (im : Byte) (s : State) : Out :=
  finish (combine (addWith false) (.extended dst) (.imm im) s)

/-- `CP r1, r2` (40_arithmetic.md R178). -/
def execCp_r_r (dst src : Nib) (s : State) : Out :=
  finish (test (compareWith false) (.working dst) (.place (.working src)) s)

/-- `CP r1, @r2` (40_arithmetic.md R178). -/
def execCp_r_Ir (dst src : Nib) (s : State) : Out :=
  finish (test (compareWith false) (.working dst) (.place (.viaWorking src)) s)

/-- `CP R1, R2` (40_arithmetic.md R178). -/
def execCp_R_R (dst src : Byte) (s : State) : Out :=
  finish (test (compareWith false) (.short dst) (.place (.short src)) s)

/-- `CP R1, @R2` (40_arithmetic.md R178). -/
def execCp_R_IR (dst src : Byte) (s : State) : Out :=
  finish (test (compareWith false) (.short dst) (.place (.viaShort src)) s)

/-- `CP R1, IM` (40_arithmetic.md R178). -/
def execCp_R_IM (dst im : Byte) (s : State) : Out :=
  finish (test (compareWith false) (.short dst) (.imm im) s)

/-- `CP @R1, IM` (40_arithmetic.md R178). -/
def execCp_IR_IM (dst im : Byte) (s : State) : Out :=
  finish (test (compareWith false) (.viaShort dst) (.imm im) s)

/-- `CPX ER1, ER2` (40_arithmetic.md R181). -/
def execCpx_ER_ER (dst src : Addr) (s : State) : Out :=
  finish (test (compareWith false) (.extended dst) (.place (.extended src)) s)

/-- `CPX ER1, IM` (40_arithmetic.md R181). -/
def execCpx_ER_IM (dst : Addr) (im : Byte) (s : State) : Out :=
  finish (test (compareWith false) (.extended dst) (.imm im) s)

/-- `CPC r1, r2` (40_arithmetic.md R179). -/
def execCpc_r_r (dst src : Nib) (s : State) : Out :=
  finish (test (compareCarry s.product.flagBit s.flags) (.working dst) (.place (.working src)) s)

/-- `CPC r1, @r2` (40_arithmetic.md R179). -/
def execCpc_r_Ir (dst src : Nib) (s : State) : Out :=
  finish (test (compareCarry s.product.flagBit s.flags) (.working dst) (.place (.viaWorking src)) s)

/-- `CPC R1, R2` (40_arithmetic.md R179). -/
def execCpc_R_R (dst src : Byte) (s : State) : Out :=
  finish (test (compareCarry s.product.flagBit s.flags) (.short dst) (.place (.short src)) s)

/-- `CPC R1, @R2` (40_arithmetic.md R179). -/
def execCpc_R_IR (dst src : Byte) (s : State) : Out :=
  finish (test (compareCarry s.product.flagBit s.flags) (.short dst) (.place (.viaShort src)) s)

/-- `CPC R1, IM` (40_arithmetic.md R179). -/
def execCpc_R_IM (dst im : Byte) (s : State) : Out :=
  finish (test (compareCarry s.product.flagBit s.flags) (.short dst) (.imm im) s)

/-- `CPC @R1, IM` (40_arithmetic.md R179). -/
def execCpc_IR_IM (dst im : Byte) (s : State) : Out :=
  finish (test (compareCarry s.product.flagBit s.flags) (.viaShort dst) (.imm im) s)

/-- `CPCX ER1, ER2` (40_arithmetic.md R180). -/
def execCpcx_ER_ER (dst src : Addr) (s : State) : Out :=
  finish (test (compareCarry s.product.flagBit s.flags) (.extended dst) (.place (.extended src)) s)

/-- `CPCX ER1, IM` (40_arithmetic.md R180). -/
def execCpcx_ER_IM (dst : Addr) (im : Byte) (s : State) : Out :=
  finish (test (compareCarry s.product.flagBit s.flags) (.extended dst) (.imm im) s)

/-- `DA R1` (40_arithmetic.md R182). -/
def execDa_R (dst : Byte) (s : State) : Out :=
  finish (modify (decimalAdjust s.tick s.product.flagBit s.flags) (.short dst) s)

/-- `DA @R1` (40_arithmetic.md R182). -/
def execDa_IR (dst : Byte) (s : State) : Out :=
  finish (modify (decimalAdjust s.tick s.product.flagBit s.flags) (.viaShort dst) s)

/-- `DEC R1` (40_arithmetic.md R184). -/
def execDec_R (dst : Byte) (s : State) : Out :=
  finish (modify decrement (.short dst) s)

/-- `DEC @R1` (40_arithmetic.md R184). -/
def execDec_IR (dst : Byte) (s : State) : Out :=
  finish (modify decrement (.viaShort dst) s)

/-- `DECW RR1` (40_arithmetic.md R185). -/
def execDecw_RR (dst : Byte) (s : State) : Out :=
  finish (modifyPair decrementWord (.short dst) s)

/-- `DECW @R1` (40_arithmetic.md R185). -/
def execDecw_IR (dst : Byte) (s : State) : Out :=
  finish (modifyPair decrementWord (.viaShort dst) s)

/-- `INC r1` (40_arithmetic.md R186). -/
def execInc_r (dst : Nib) (s : State) : Out :=
  finish (modify increment (.working dst) s)

/-- `INC R1` (40_arithmetic.md R186). -/
def execInc_R (dst : Byte) (s : State) : Out :=
  finish (modify increment (.short dst) s)

/-- `INC @R1` (40_arithmetic.md R186). -/
def execInc_IR (dst : Byte) (s : State) : Out :=
  finish (modify increment (.viaShort dst) s)

/-- `INCW RR1` (40_arithmetic.md R187). -/
def execIncw_RR (dst : Byte) (s : State) : Out :=
  finish (modifyPair incrementWord (.short dst) s)

/-- `INCW @R1` (40_arithmetic.md R187). -/
def execIncw_IR (dst : Byte) (s : State) : Out :=
  finish (modifyPair incrementWord (.viaShort dst) s)

/-- `MULT RR1` (40_arithmetic.md R188). -/
def execMult_RR (dst : Byte) (s : State) : Out :=
  finish (multiply (.short dst) s)

/-- `SBC r1, r2` (40_arithmetic.md R189). -/
def execSbc_r_r (dst src : Nib) (s : State) : Out :=
  finish (combine (subWith (flag .c s)) (.working dst) (.place (.working src)) s)

/-- `SBC r1, @r2` (40_arithmetic.md R189). -/
def execSbc_r_Ir (dst src : Nib) (s : State) : Out :=
  finish (combine (subWith (flag .c s)) (.working dst) (.place (.viaWorking src)) s)

/-- `SBC R1, R2` (40_arithmetic.md R189). -/
def execSbc_R_R (dst src : Byte) (s : State) : Out :=
  finish (combine (subWith (flag .c s)) (.short dst) (.place (.short src)) s)

/-- `SBC R1, @R2` (40_arithmetic.md R189). -/
def execSbc_R_IR (dst src : Byte) (s : State) : Out :=
  finish (combine (subWith (flag .c s)) (.short dst) (.place (.viaShort src)) s)

/-- `SBC R1, IM` (40_arithmetic.md R189). -/
def execSbc_R_IM (dst im : Byte) (s : State) : Out :=
  finish (combine (subWith (flag .c s)) (.short dst) (.imm im) s)

/-- `SBC @R1, IM` (40_arithmetic.md R189). -/
def execSbc_IR_IM (dst im : Byte) (s : State) : Out :=
  finish (combine (subWith (flag .c s)) (.viaShort dst) (.imm im) s)

/-- `SBCX ER1, ER2` (40_arithmetic.md R190). -/
def execSbcx_ER_ER (dst src : Addr) (s : State) : Out :=
  finish (combine (subWith (flag .c s)) (.extended dst) (.place (.extended src)) s)

/-- `SBCX ER1, IM` (40_arithmetic.md R190). -/
def execSbcx_ER_IM (dst : Addr) (im : Byte) (s : State) : Out :=
  finish (combine (subWith (flag .c s)) (.extended dst) (.imm im) s)

/-- `SUB r1, r2` (40_arithmetic.md R191). -/
def execSub_r_r (dst src : Nib) (s : State) : Out :=
  finish (combine (subWith false) (.working dst) (.place (.working src)) s)

/-- `SUB r1, @r2` (40_arithmetic.md R191). -/
def execSub_r_Ir (dst src : Nib) (s : State) : Out :=
  finish (combine (subWith false) (.working dst) (.place (.viaWorking src)) s)

/-- `SUB R1, R2` (40_arithmetic.md R191). -/
def execSub_R_R (dst src : Byte) (s : State) : Out :=
  finish (combine (subWith false) (.short dst) (.place (.short src)) s)

/-- `SUB R1, @R2` (40_arithmetic.md R191). -/
def execSub_R_IR (dst src : Byte) (s : State) : Out :=
  finish (combine (subWith false) (.short dst) (.place (.viaShort src)) s)

/-- `SUB R1, IM` (40_arithmetic.md R191). -/
def execSub_R_IM (dst im : Byte) (s : State) : Out :=
  finish (combine (subWith false) (.short dst) (.imm im) s)

/-- `SUB @R1, IM` (40_arithmetic.md R191). -/
def execSub_IR_IM (dst im : Byte) (s : State) : Out :=
  finish (combine (subWith false) (.viaShort dst) (.imm im) s)

/-- `SUBX ER1, ER2` (40_arithmetic.md R192). -/
def execSubx_ER_ER (dst src : Addr) (s : State) : Out :=
  finish (combine (subWith false) (.extended dst) (.place (.extended src)) s)

/-- `SUBX ER1, IM` (40_arithmetic.md R192). -/
def execSubx_ER_IM (dst : Addr) (im : Byte) (s : State) : Out :=
  finish (combine (subWith false) (.extended dst) (.imm im) s)

end Sys2Proof.Machine
end

