-- ==== Sys2Proof/Machine/BitManipulation.lean ====
section
/-!
DEFINITION. The bit manipulation instructions (41_bit_manipulation.md), one definition each.
-/

namespace Sys2Proof.Machine

/-- `C <- c`, every other flag as it was (41_bit_manipulation.md R214 to R216). -/
def setCarry (c : Bool) (s : State) : State := updateFlags { c := some c } s

/-- `BIT p, b, r1` (41_bit_manipulation.md R210). -/
def execBit (p : Bool) (b : BitNo) (dst : Nib) (s : State) : Out :=
  finish (modify (replaceBit s.product.bitopsWriteFlags p b) (.working dst) s)

/-- `BCLR b, r1` (41_bit_manipulation.md R211). -/
def execBclr (b : BitNo) (dst : Nib) (s : State) : Out :=
  finish (modify (replaceBit s.product.bitopsWriteFlags false b) (.working dst) s)

/-- `BSET b, r1` (41_bit_manipulation.md R212). -/
def execBset (b : BitNo) (dst : Nib) (s : State) : Out :=
  finish (modify (replaceBit s.product.bitopsWriteFlags true b) (.working dst) s)

/-- `BSWAP R1` (41_bit_manipulation.md R213). -/
def execBswap_R (dst : Byte) (s : State) : Out :=
  finish (modify (reverseBits s.tick) (.short dst) s)

/-- `CCF` (41_bit_manipulation.md R214). -/
def execCcf (s : State) : Out :=
  .next (setCarry (!flag .c s) s)

/-- `RCF` (41_bit_manipulation.md R215). -/
def execRcf (s : State) : Out :=
  .next (setCarry false s)

/-- `SCF` (41_bit_manipulation.md R216). -/
def execScf (s : State) : Out :=
  .next (setCarry true s)

/-- `TCM r1, r2` (41_bit_manipulation.md R217). -/
def execTcm_r_r (dst src : Nib) (s : State) : Out :=
  finish (test testComplement (.working dst) (.place (.working src)) s)

/-- `TCM r1, @r2` (41_bit_manipulation.md R217). -/
def execTcm_r_Ir (dst src : Nib) (s : State) : Out :=
  finish (test testComplement (.working dst) (.place (.viaWorking src)) s)

/-- `TCM R1, R2` (41_bit_manipulation.md R217). -/
def execTcm_R_R (dst src : Byte) (s : State) : Out :=
  finish (test testComplement (.short dst) (.place (.short src)) s)

/-- `TCM R1, @R2` (41_bit_manipulation.md R217). -/
def execTcm_R_IR (dst src : Byte) (s : State) : Out :=
  finish (test testComplement (.short dst) (.place (.viaShort src)) s)

/-- `TCM R1, IM` (41_bit_manipulation.md R217). -/
def execTcm_R_IM (dst im : Byte) (s : State) : Out :=
  finish (test testComplement (.short dst) (.imm im) s)

/-- `TCM @R1, IM` (41_bit_manipulation.md R217). -/
def execTcm_IR_IM (dst im : Byte) (s : State) : Out :=
  finish (test testComplement (.viaShort dst) (.imm im) s)

/-- `TCMX ER1, ER2` (41_bit_manipulation.md R218). -/
def execTcmx_ER_ER (dst src : Addr) (s : State) : Out :=
  finish (test testComplement (.extended dst) (.place (.extended src)) s)

/-- `TCMX ER1, IM` (41_bit_manipulation.md R218). -/
def execTcmx_ER_IM (dst : Addr) (im : Byte) (s : State) : Out :=
  finish (test testComplement (.extended dst) (.imm im) s)

/-- `TM r1, r2` (41_bit_manipulation.md R219). -/
def execTm_r_r (dst src : Nib) (s : State) : Out :=
  finish (test logicalAnd (.working dst) (.place (.working src)) s)

/-- `TM r1, @r2` (41_bit_manipulation.md R219). -/
def execTm_r_Ir (dst src : Nib) (s : State) : Out :=
  finish (test logicalAnd (.working dst) (.place (.viaWorking src)) s)

/-- `TM R1, R2` (41_bit_manipulation.md R219). -/
def execTm_R_R (dst src : Byte) (s : State) : Out :=
  finish (test logicalAnd (.short dst) (.place (.short src)) s)

/-- `TM R1, @R2` (41_bit_manipulation.md R219). -/
def execTm_R_IR (dst src : Byte) (s : State) : Out :=
  finish (test logicalAnd (.short dst) (.place (.viaShort src)) s)

/-- `TM R1, IM` (41_bit_manipulation.md R219). -/
def execTm_R_IM (dst im : Byte) (s : State) : Out :=
  finish (test logicalAnd (.short dst) (.imm im) s)

/-- `TM @R1, IM` (41_bit_manipulation.md R219). -/
def execTm_IR_IM (dst im : Byte) (s : State) : Out :=
  finish (test logicalAnd (.viaShort dst) (.imm im) s)

/-- `TMX ER1, ER2` (41_bit_manipulation.md R220). -/
def execTmx_ER_ER (dst src : Addr) (s : State) : Out :=
  finish (test logicalAnd (.extended dst) (.place (.extended src)) s)

/-- `TMX ER1, IM` (41_bit_manipulation.md R220). -/
def execTmx_ER_IM (dst : Addr) (im : Byte) (s : State) : Out :=
  finish (test logicalAnd (.extended dst) (.imm im) s)

end Sys2Proof.Machine
end

