-- ==== Sys2Proof/Machine/BlockTransfer.lean ====
section
/-!
DEFINITION. The block transfer instructions (42_block_transfer.md), one definition each.
-/

namespace Sys2Proof.Machine

/-- `reg[pg(reg[wr(r)])] <- mem[rr]`, then the increments (42_block_transfer.md R233, R235). -/
def loadAndIncrement (fetch : Word → State → Byte) (r rr : Nib) (s : State) : Res State := do
  let s1 ← loadFromMemory fetch (.viaWorking r) rr s
  incrementPointers (workingAddress r s) (workingAddress rr s) s1

/-- `mem[rr] <- reg[pg(reg[wr(r)])]`, then the increments (42_block_transfer.md R233, R235). -/
def storeAndIncrement (store : Word → Byte → State → State) (rr r : Nib) (s : State) : Res State := do
  let s1 ← storeToMemory store rr (.viaWorking r) s
  incrementPointers (workingAddress r s) (workingAddress rr s) s1

/-- `LDC r1, @rr2` (42_block_transfer.md R232). -/
def execLdc_r_Irr (dst src : Nib) (s : State) : Out :=
  finish (loadFromMemory programByte (.working dst) src s)

/-- `LDC @r1, @rr2` (42_block_transfer.md R232). -/
def execLdc_Ir_Irr (dst src : Nib) (s : State) : Out :=
  finish (loadFromMemory programByte (.viaWorking dst) src s)

/-- `LDC @rr1, r2` (42_block_transfer.md R232). -/
def execLdc_Irr_r (dst src : Nib) (s : State) : Out :=
  finish (storeToMemory writeProgram dst (.working src) s)

/-- `LDCI @r1, @rr2` (42_block_transfer.md R233). -/
def execLdci_Ir_Irr (dst src : Nib) (s : State) : Out :=
  finish (loadAndIncrement programByte dst src s)

/-- `LDCI @rr1, @r2` (42_block_transfer.md R233). -/
def execLdci_Irr_Ir (dst src : Nib) (s : State) : Out :=
  finish (storeAndIncrement writeProgram dst src s)

/-- `LDE r1, @rr2` (42_block_transfer.md R234). -/
def execLde_r_Irr (dst src : Nib) (s : State) : Out :=
  finish (loadFromMemory dataByte (.working dst) src s)

/-- `LDE @rr1, r2` (42_block_transfer.md R234). -/
def execLde_Irr_r (dst src : Nib) (s : State) : Out :=
  finish (storeToMemory writeData dst (.working src) s)

/-- `LDEI @r1, @rr2` (42_block_transfer.md R235). -/
def execLdei_Ir_Irr (dst src : Nib) (s : State) : Out :=
  finish (loadAndIncrement dataByte dst src s)

/-- `LDEI @rr1, @r2` (42_block_transfer.md R235). -/
def execLdei_Irr_Ir (dst src : Nib) (s : State) : Out :=
  finish (storeAndIncrement writeData dst src s)

end Sys2Proof.Machine
end

