-- ==== Sys2Proof/Machine/CpuControl.lean ====
section
/-!
DEFINITION. The CPU control instructions (43_cpu_control.md), one definition each.
-/

namespace Sys2Proof.Machine

/-- `atm <- 3`; inside a block the Illegal Instruction Trap with the address of the ATM byte, which is one below
the advanced Program Counter (43_cpu_control.md R240, R241). -/
def openAtomicBlock (s : State) : Res State :=
  if s.atm = 0 then .ok (withAtm 3 s) else illegalInstruction (s.pc - 1) s

/-- Halt or Stop mode. What is left of an atomic block that HALT or STOP stands in is open
(93_implementation_defined.md U8; notes/assumptions/14.md). -/
def enterMode (m : Mode) (s : State) : State :=
  withAtm (if s.atm = 0 then 0 else Config.freeCount s.tick .atomicLeft % 4) (withMode m s)

/-- `ATM` (43_cpu_control.md R240). -/
def execAtm (s : State) : Out :=
  finish (openAtomicBlock s)

/-- `DI` (43_cpu_control.md R242). -/
def execDi (s : State) : Out :=
  .next (setInterruptsEnabled false s)

/-- `EI` (43_cpu_control.md R244). -/
def execEi (s : State) : Out :=
  .next (setInterruptsEnabled true s)

/-- `HALT` (43_cpu_control.md R243). -/
def execHalt (s : State) : Out :=
  .next (enterMode .halt s)

/-- `NOP` (43_cpu_control.md R245). -/
def execNop (s : State) : Out :=
  .next s

/-- `SRP IM` (43_cpu_control.md R246). -/
def execSrp (im : Byte) (s : State) : Out :=
  .next (withRp im s)

/-- `STOP` (43_cpu_control.md R247). -/
def execStop (s : State) : Out :=
  .next (enterMode .stop s)

/-- The Watchdog Timer is enabled and its count restarts (43_cpu_control.md R248). -/
def refreshWatchdog (s : State) : State := withWdtStart s.tick (withWdtOn true s)

/-- `WDT` (43_cpu_control.md R248). -/
def execWdt (s : State) : Out :=
  .next (refreshWatchdog s)

end Sys2Proof.Machine
end

