-- ==== Sys2Proof/Machine/Load.lean ====
section
/-!
DEFINITION. The load instructions (44_load.md), one definition each.
-/

namespace Sys2Proof.Machine

/-- Two bytes from `ea12(ER2)` to `ea12(ER1)`, both read before either is written (44_load.md R268). -/
def loadWord (dst src : Addr) (s : State) : Res State := do
  let (w, s1) ← accessTwo 6 (pairAddress s.product.oddLdwx (escaped12 src s)) s
  writeTwo (pairAddress s.product.oddLdwx (escaped12 dst s)) w s1

/-- `r1 <- r2 + X` (44_load.md R272). -/
def loadEffective (dst base : Nib) (x : Byte) (s : State) : Res State := do
  let (b, s1) ← accessRegister 6 (workingAddress base s) s
  writeRegister (workingAddress dst s) (b + x) s1

/-- `rr1 <- rr2 + sext_16(X)` (44_load.md R272). -/
def loadEffectivePair (dst base : Nib) (x : Byte) (s : State) : Res State := do
  let (b, s1) ← accessPair 6 (workingAddress base s) s
  writePair (workingAddress dst s) (b + x.signExtend 16) s1

/-- `CLR R1` (44_load.md R260). -/
def execClr_R (dst : Byte) (s : State) : Out :=
  finish (load (.short dst) (.imm 0x00) s)

/-- `CLR @R1` (44_load.md R260). -/
def execClr_IR (dst : Byte) (s : State) : Out :=
  finish (load (.viaShort dst) (.imm 0x00) s)

/-- `LD r1, IM` (44_load.md R262). -/
def execLd_r_IM (dst : Nib) (im : Byte) (s : State) : Out :=
  finish (load (.working dst) (.imm im) s)

/-- `LD R1, IM` (44_load.md R262). -/
def execLd_R_IM (dst im : Byte) (s : State) : Out :=
  finish (load (.short dst) (.imm im) s)

/-- `LD @R1, IM` (44_load.md R262). -/
def execLd_IR_IM (dst im : Byte) (s : State) : Out :=
  finish (load (.viaShort dst) (.imm im) s)

/-- `LD r1, @r2` (44_load.md R263). -/
def execLd_r_Ir (dst src : Nib) (s : State) : Out :=
  finish (load (.working dst) (.place (.viaWorking src)) s)

/-- `LD @r1, r2` (44_load.md R263). -/
def execLd_Ir_r (dst src : Nib) (s : State) : Out :=
  finish (load (.viaWorking dst) (.place (.working src)) s)

/-- `LD R1, R2` (44_load.md R264). -/
def execLd_R_R (dst src : Byte) (s : State) : Out :=
  finish (load (.short dst) (.place (.short src)) s)

/-- `LD R1, @R2` (44_load.md R264). -/
def execLd_R_IR (dst src : Byte) (s : State) : Out :=
  finish (load (.short dst) (.place (.viaShort src)) s)

/-- `LD @R1, R2` (44_load.md R264). -/
def execLd_IR_R (dst src : Byte) (s : State) : Out :=
  finish (load (.viaShort dst) (.place (.short src)) s)

/-- `LD r1, X(r2)` (44_load.md R265). -/
def execLd_r_Xr (dst base : Nib) (x : Byte) (s : State) : Out :=
  finish (load (.working dst) (.place (.indexed base x)) s)

/-- `LD X(r1), r2` (44_load.md R265). -/
def execLd_Xr_r (base : Nib) (x : Byte) (src : Nib) (s : State) : Out :=
  finish (load (.indexed base x) (.place (.working src)) s)

/-- `LDWX ER1, ER2` (44_load.md R268). -/
def execLdwx_ER_ER (dst src : Addr) (s : State) : Out :=
  finish (loadWord dst src s)

/-- `LDX r1, ER2` (44_load.md R269). -/
def execLdx_r_ER (dst : Nib) (src : Addr) (s : State) : Out :=
  finish (load (.working dst) (.place (.linear src)) s)

/-- `LDX @r1, ER2` (44_load.md R269). -/
def execLdx_Ir_ER (dst : Nib) (src : Addr) (s : State) : Out :=
  finish (load (.viaWorking dst) (.place (.linear src)) s)

/-- `LDX R1, @RR2` (44_load.md R270). -/
def execLdx_R_IRR (dst src : Byte) (s : State) : Out :=
  finish (load (.short dst) (.place (.viaPair src)) s)

/-- `LDX @R1, @.ER(RR2)` (44_load.md R270). -/
def execLdx_IR_IRR (dst src : Byte) (s : State) : Out :=
  finish (load (.viaShort dst) (.place (.viaPair src)) s)

/-- `LDX r1, X(rr2)` (44_load.md R273). -/
def execLdx_r_Xrr (dst base : Nib) (x : Byte) (s : State) : Out :=
  finish (load (.working dst) (.place (.pairIndexed base x)) s)

/-- `LDX X(rr1), r2` (44_load.md R273). -/
def execLdx_Xrr_r (base : Nib) (x : Byte) (src : Nib) (s : State) : Out :=
  finish (load (.pairIndexed base x) (.place (.working src)) s)

/-- `LDX ER1, r2` (44_load.md R269). -/
def execLdx_ER_r (dst : Addr) (src : Nib) (s : State) : Out :=
  finish (load (.linear dst) (.place (.working src)) s)

/-- `LDX ER1, @r2` (44_load.md R269). -/
def execLdx_ER_Ir (dst : Addr) (src : Nib) (s : State) : Out :=
  finish (load (.linear dst) (.place (.viaWorking src)) s)

/-- `LDX @RR1, R2` (44_load.md R270). -/
def execLdx_IRR_R (dst src : Byte) (s : State) : Out :=
  finish (load (.viaPair dst) (.place (.short src)) s)

/-- `LDX @.ER(RR1), @R2` (44_load.md R270). -/
def execLdx_IRR_IR (dst src : Byte) (s : State) : Out :=
  finish (load (.viaPair dst) (.place (.viaShort src)) s)

/-- `LDX ER1, ER2` (44_load.md R271). -/
def execLdx_ER_ER (dst src : Addr) (s : State) : Out :=
  finish (load (.extended dst) (.place (.extended src)) s)

/-- `LDX ER1, IM` (44_load.md R271). -/
def execLdx_ER_IM (dst : Addr) (im : Byte) (s : State) : Out :=
  finish (load (.extended dst) (.imm im) s)

/-- `LEA r1, X(r2)` (44_load.md R272). -/
def execLea_r_Xr (dst base : Nib) (x : Byte) (s : State) : Out :=
  finish (loadEffective dst base x s)

/-- `LEA rr1, X(rr2)` (44_load.md R272). -/
def execLea_rr_Xrr (dst base : Nib) (x : Byte) (s : State) : Out :=
  finish (loadEffectivePair dst base x s)

/-- `POP R1` (44_load.md R274). -/
def execPop_R (dst : Byte) (s : State) : Out :=
  finish (popInto (.short dst) s)

/-- `POP @R1` (44_load.md R274). -/
def execPop_IR (dst : Byte) (s : State) : Out :=
  finish (popInto (.viaShort dst) s)

/-- `POPX ER1` (44_load.md R275). -/
def execPopx_ER (dst : Addr) (s : State) : Out :=
  finish (popInto (.extended dst) s)

/-- `PUSH R2` (44_load.md R276). -/
def execPush_R (src : Byte) (s : State) : Out :=
  finish (pushFrom (.place (.short src)) s)

/-- `PUSH @R2` (44_load.md R276). -/
def execPush_IR (src : Byte) (s : State) : Out :=
  finish (pushFrom (.place (.viaShort src)) s)

/-- `PUSH IM` (44_load.md R276). -/
def execPush_IM (im : Byte) (s : State) : Out :=
  finish (pushFrom (.imm im) s)

/-- `PUSHX ER2` (44_load.md R277). -/
def execPushx_ER (src : Addr) (s : State) : Out :=
  finish (pushFrom (.place (.extended src)) s)

end Sys2Proof.Machine
end

