-- ==== Sys2Proof/Machine/Logical.lean ====
section
/-!
DEFINITION. The logical instructions (45_logical.md), one definition each.
-/

namespace Sys2Proof.Machine

/-- `AND r1, r2` (45_logical.md R290). -/
def execAnd_r_r (dst src : Nib) (s : State) : Out :=
  finish (combine logicalAnd (.working dst) (.place (.working src)) s)

/-- `AND r1, @r2` (45_logical.md R290). -/
def execAnd_r_Ir (dst src : Nib) (s : State) : Out :=
  finish (combine logicalAnd (.working dst) (.place (.viaWorking src)) s)

/-- `AND R1, R2` (45_logical.md R290). -/
def execAnd_R_R (dst src : Byte) (s : State) : Out :=
  finish (combine logicalAnd (.short dst) (.place (.short src)) s)

/-- `AND R1, @R2` (45_logical.md R290). -/
def execAnd_R_IR (dst src : Byte) (s : State) : Out :=
  finish (combine logicalAnd (.short dst) (.place (.viaShort src)) s)

/-- `AND R1, IM` (45_logical.md R290). -/
def execAnd_R_IM (dst im : Byte) (s : State) : Out :=
  finish (combine logicalAnd (.short dst) (.imm im) s)

/-- `AND @R1, IM` (45_logical.md R290). -/
def execAnd_IR_IM (dst im : Byte) (s : State) : Out :=
  finish (combine logicalAnd (.viaShort dst) (.imm im) s)

/-- `ANDX ER1, ER2` (45_logical.md R291). -/
def execAndx_ER_ER (dst src : Addr) (s : State) : Out :=
  finish (combine logicalAnd (.extended dst) (.place (.extended src)) s)

/-- `ANDX ER1, IM` (45_logical.md R291). -/
def execAndx_ER_IM (dst : Addr) (im : Byte) (s : State) : Out :=
  finish (combine logicalAnd (.extended dst) (.imm im) s)

/-- `COM R1` (45_logical.md R292). -/
def execCom_R (dst : Byte) (s : State) : Out :=
  finish (modify complement (.short dst) s)

/-- `COM @R1` (45_logical.md R292). -/
def execCom_IR (dst : Byte) (s : State) : Out :=
  finish (modify complement (.viaShort dst) s)

/-- `OR r1, r2` (45_logical.md R293). -/
def execOr_r_r (dst src : Nib) (s : State) : Out :=
  finish (combine logicalOr (.working dst) (.place (.working src)) s)

/-- `OR r1, @r2` (45_logical.md R293). -/
def execOr_r_Ir (dst src : Nib) (s : State) : Out :=
  finish (combine logicalOr (.working dst) (.place (.viaWorking src)) s)

/-- `OR R1, R2` (45_logical.md R293). -/
def execOr_R_R (dst src : Byte) (s : State) : Out :=
  finish (combine logicalOr (.short dst) (.place (.short src)) s)

/-- `OR R1, @R2` (45_logical.md R293). -/
def execOr_R_IR (dst src : Byte) (s : State) : Out :=
  finish (combine logicalOr (.short dst) (.place (.viaShort src)) s)

/-- `OR R1, IM` (45_logical.md R293). -/
def execOr_R_IM (dst im : Byte) (s : State) : Out :=
  finish (combine logicalOr (.short dst) (.imm im) s)

/-- `OR @R1, IM` (45_logical.md R293). -/
def execOr_IR_IM (dst im : Byte) (s : State) : Out :=
  finish (combine logicalOr (.viaShort dst) (.imm im) s)

/-- `ORX ER1, ER2` (45_logical.md R294). -/
def execOrx_ER_ER (dst src : Addr) (s : State) : Out :=
  finish (combine logicalOr (.extended dst) (.place (.extended src)) s)

/-- `ORX ER1, IM` (45_logical.md R294). -/
def execOrx_ER_IM (dst : Addr) (im : Byte) (s : State) : Out :=
  finish (combine logicalOr (.extended dst) (.imm im) s)

/-- `XOR r1, r2` (45_logical.md R295). -/
def execXor_r_r (dst src : Nib) (s : State) : Out :=
  finish (combine logicalXor (.working dst) (.place (.working src)) s)

/-- `XOR r1, @r2` (45_logical.md R295). -/
def execXor_r_Ir (dst src : Nib) (s : State) : Out :=
  finish (combine logicalXor (.working dst) (.place (.viaWorking src)) s)

/-- `XOR R1, R2` (45_logical.md R295). -/
def execXor_R_R (dst src : Byte) (s : State) : Out :=
  finish (combine logicalXor (.short dst) (.place (.short src)) s)

/-- `XOR R1, @R2` (45_logical.md R295). -/
def execXor_R_IR (dst src : Byte) (s : State) : Out :=
  finish (combine logicalXor (.short dst) (.place (.viaShort src)) s)

/-- `XOR R1, IM` (45_logical.md R295). -/
def execXor_R_IM (dst im : Byte) (s : State) : Out :=
  finish (combine logicalXor (.short dst) (.imm im) s)

/-- `XOR @R1, IM` (45_logical.md R295). -/
def execXor_IR_IM (dst im : Byte) (s : State) : Out :=
  finish (combine logicalXor (.viaShort dst) (.imm im) s)

/-- `XORX ER1, ER2` (45_logical.md R296). -/
def execXorx_ER_ER (dst src : Addr) (s : State) : Out :=
  finish (combine logicalXor (.extended dst) (.place (.extended src)) s)

/-- `XORX ER1, IM` (45_logical.md R296). -/
def execXorx_ER_IM (dst : Addr) (im : Byte) (s : State) : Out :=
  finish (combine logicalXor (.extended dst) (.imm im) s)

end Sys2Proof.Machine
end

