-- ==== Sys2Proof/Machine/ProgramControl.lean ====
section
/-!
DEFINITION. The program control instructions (46_program_control.md), one definition each.
-/

namespace Sys2Proof.Machine

/-- BRK: nothing, or the end of the run with the Program Counter after the BRK (46_program_control.md R311). -/
def breakpoint (s : State) : Out :=
  match s.product.brkAction with
  | .nop => .next s
  | .endOfRun => .fault (.debuggerBreak s.pc)

/-- `push16(pc); pc <- target` (46_program_control.md R316). -/
def callTo (target : Word) (s : State) : Res State := do
  let s1 ← push16 s.pc s
  .ok (branchTo target s1)

/-- CALL through a register pair, read before the stack is written (46_program_control.md R316). -/
def callThrough (a : Byte) (s : State) : Res State := do
  let (t, s1) ← accessPair 4 (escaped8 a s) s
  callTo t s1

/-- JP through a register pair (46_program_control.md R319). -/
def jumpThrough (a : Byte) (s : State) : Res State := do
  let (t, s1) ← accessPair 4 (escaped8 a s) s
  .ok (branchTo t s1)

/-- `r <- r - 1`, no flag; the jump where the result is not 0 (46_program_control.md R317). -/
def decrementAndJump (n : Nib) (x : Byte) (s : State) : Res State := do
  let (d, s1) ← accessRegister 2 (workingAddress n s) s
  let s2 ← writeRegister (workingAddress n s) (d - 1) s1
  .ok (branchIf (decide (d - 1 ≠ 0)) (relativeTarget x s) s2)

/-- `pc <- pop16()` (46_program_control.md R323). -/
def returnFromCall (s : State) : Res State := do
  let (t, s1) ← pop16 0 s
  .ok (branchTo t s1)

/-- TRAP: the exception entry with the next instruction's address and the vector at twice its number
(46_program_control.md R326). -/
def softwareTrap (vector : Byte) (s : State) : Res State :=
  takeException s.pc (BitVec.ofNat 16 (2 * vector.toNat)) s.product.trapClearsIrqe s

/-- `BRK` (46_program_control.md R311). -/
def execBrk (s : State) : Out :=
  breakpoint s

/-- `BTJ p, b, r2, X` (46_program_control.md R313). -/
def execBtj_r (p : Bool) (b : BitNo) (src : Nib) (x : Byte) (s : State) : Out :=
  finish (branchOnBit p b (.working src) x s)

/-- `BTJ p, b, @r2, X` (46_program_control.md R313). -/
def execBtj_Ir (p : Bool) (b : BitNo) (src : Nib) (x : Byte) (s : State) : Out :=
  finish (branchOnBit p b (.viaWorking src) x s)

/-- `BTJNZ b, r2, X` (46_program_control.md R314). -/
def execBtjnz_r (b : BitNo) (src : Nib) (x : Byte) (s : State) : Out :=
  finish (branchOnBit true b (.working src) x s)

/-- `BTJNZ b, @r2, X` (46_program_control.md R314). -/
def execBtjnz_Ir (b : BitNo) (src : Nib) (x : Byte) (s : State) : Out :=
  finish (branchOnBit true b (.viaWorking src) x s)

/-- `BTJZ b, r2, X` (46_program_control.md R315). -/
def execBtjz_r (b : BitNo) (src : Nib) (x : Byte) (s : State) : Out :=
  finish (branchOnBit false b (.working src) x s)

/-- `BTJZ b, @r2, X` (46_program_control.md R315). -/
def execBtjz_Ir (b : BitNo) (src : Nib) (x : Byte) (s : State) : Out :=
  finish (branchOnBit false b (.viaWorking src) x s)

/-- `CALL @RR1` (46_program_control.md R316). -/
def execCall_IRR (dst : Byte) (s : State) : Out :=
  finish (callThrough dst s)

/-- `CALL DA` (46_program_control.md R316). -/
def execCall_DA (target : Word) (s : State) : Out :=
  finish (callTo target s)

/-- `DJNZ r1, X` (46_program_control.md R317). -/
def execDjnz (dst : Nib) (x : Byte) (s : State) : Out :=
  finish (decrementAndJump dst x s)

/-- `IRET` (46_program_control.md R318). -/
def execIret (s : State) : Out :=
  finish (returnFromException s)

/-- `JP @RR1` (46_program_control.md R319). -/
def execJp_IRR (dst : Byte) (s : State) : Out :=
  finish (jumpThrough dst s)

/-- `JP DA` (46_program_control.md R319). -/
def execJp_DA (target : Word) (s : State) : Out :=
  .next (branchTo target s)

/-- `JP cc cc, DA` (46_program_control.md R320). -/
def execJp_cc (cc : Cond) (target : Word) (s : State) : Out :=
  .next (branchIf (condHolds cc s.product.flagBit s.flags) target s)

/-- `JR X` (46_program_control.md R321). -/
def execJr (x : Byte) (s : State) : Out :=
  .next (branchTo (relativeTarget x s) s)

/-- `JR cc cc, X` (46_program_control.md R322). -/
def execJr_cc (cc : Cond) (x : Byte) (s : State) : Out :=
  .next (branchIf (condHolds cc s.product.flagBit s.flags) (relativeTarget x s) s)

/-- `RET` (46_program_control.md R323). -/
def execRet (s : State) : Out :=
  finish (returnFromCall s)

/-- `TRAP Vector` (46_program_control.md R326). -/
def execTrap (vector : Byte) (s : State) : Out :=
  finish (softwareTrap vector s)

end Sys2Proof.Machine
end

