-- ==== Sys2Proof/Machine/RotateShift.lean ====
section
/-!
DEFINITION. The rotate and shift instructions (47_rotate_shift.md), one definition each.
-/

namespace Sys2Proof.Machine

/-- `RL R1` (47_rotate_shift.md R342). -/
def execRl_R (dst : Byte) (s : State) : Out :=
  finish (modify rotateLeft (.short dst) s)

/-- `RL @R1` (47_rotate_shift.md R342). -/
def execRl_IR (dst : Byte) (s : State) : Out :=
  finish (modify rotateLeft (.viaShort dst) s)

/-- `RLC R1` (47_rotate_shift.md R343). -/
def execRlc_R (dst : Byte) (s : State) : Out :=
  finish (modify (rotateLeftCarry (flag .c s)) (.short dst) s)

/-- `RLC @R1` (47_rotate_shift.md R343). -/
def execRlc_IR (dst : Byte) (s : State) : Out :=
  finish (modify (rotateLeftCarry (flag .c s)) (.viaShort dst) s)

/-- `RR R1` (47_rotate_shift.md R344). -/
def execRr_R (dst : Byte) (s : State) : Out :=
  finish (modify rotateRight (.short dst) s)

/-- `RR @R1` (47_rotate_shift.md R344). -/
def execRr_IR (dst : Byte) (s : State) : Out :=
  finish (modify rotateRight (.viaShort dst) s)

/-- `RRC R1` (47_rotate_shift.md R345). -/
def execRrc_R (dst : Byte) (s : State) : Out :=
  finish (modify (rotateRightCarry (flag .c s)) (.short dst) s)

/-- `RRC @R1` (47_rotate_shift.md R345). -/
def execRrc_IR (dst : Byte) (s : State) : Out :=
  finish (modify (rotateRightCarry (flag .c s)) (.viaShort dst) s)

/-- `SRA R1` (47_rotate_shift.md R346). -/
def execSra_R (dst : Byte) (s : State) : Out :=
  finish (modify shiftRightArithmetic (.short dst) s)

/-- `SRA @R1` (47_rotate_shift.md R346). -/
def execSra_IR (dst : Byte) (s : State) : Out :=
  finish (modify shiftRightArithmetic (.viaShort dst) s)

/-- `SRL R1` (47_rotate_shift.md R347). -/
def execSrl_R (dst : Byte) (s : State) : Out :=
  finish (modify (shiftRightLogical s.product.srlV) (.short dst) s)

/-- `SRL @R1` (47_rotate_shift.md R347). -/
def execSrl_IR (dst : Byte) (s : State) : Out :=
  finish (modify (shiftRightLogical s.product.srlV) (.viaShort dst) s)

/-- `SWAP R1` (47_rotate_shift.md R348). -/
def execSwap_R (dst : Byte) (s : State) : Out :=
  finish (modify (swapNibbles s.tick) (.short dst) s)

/-- `SWAP @R1` (47_rotate_shift.md R348). -/
def execSwap_IR (dst : Byte) (s : State) : Out :=
  finish (modify (swapNibbles s.tick) (.viaShort dst) s)

end Sys2Proof.Machine
end

