-- ==== Sys2Proof/Machine/Dispatch.lean ====
section
/-!
DEFINITION. One arm per constructor of `Instr`, each one direct call of the instruction's meaning.
-/

namespace Sys2Proof.Machine

def exec (i : Instr) (s : State) : Host.Outcome State Fault Refusal :=
  match i with
  -- arithmetic
  | .adc_r_r dst src => Sys2Proof.Machine.execAdc_r_r dst src s
  | .adc_r_Ir dst src => Sys2Proof.Machine.execAdc_r_Ir dst src s
  | .adc_R_R dst src => Sys2Proof.Machine.execAdc_R_R dst src s
  | .adc_R_IR dst src => Sys2Proof.Machine.execAdc_R_IR dst src s
  | .adc_R_IM dst im => Sys2Proof.Machine.execAdc_R_IM dst im s
  | .adc_IR_IM dst im => Sys2Proof.Machine.execAdc_IR_IM dst im s
  | .adcx_ER_ER dst src => Sys2Proof.Machine.execAdcx_ER_ER dst src s
  | .adcx_ER_IM dst im => Sys2Proof.Machine.execAdcx_ER_IM dst im s
  | .add_r_r dst src => Sys2Proof.Machine.execAdd_r_r dst src s
  | .add_r_Ir dst src => Sys2Proof.Machine.execAdd_r_Ir dst src s
  | .add_R_R dst src => Sys2Proof.Machine.execAdd_R_R dst src s
  | .add_R_IR dst src => Sys2Proof.Machine.execAdd_R_IR dst src s
  | .add_R_IM dst im => Sys2Proof.Machine.execAdd_R_IM dst im s
  | .add_IR_IM dst im => Sys2Proof.Machine.execAdd_IR_IM dst im s
  | .addx_ER_ER dst src => Sys2Proof.Machine.execAddx_ER_ER dst src s
  | .addx_ER_IM dst im => Sys2Proof.Machine.execAddx_ER_IM dst im s
  | .cp_r_r dst src => Sys2Proof.Machine.execCp_r_r dst src s
  | .cp_r_Ir dst src => Sys2Proof.Machine.execCp_r_Ir dst src s
  | .cp_R_R dst src => Sys2Proof.Machine.execCp_R_R dst src s
  | .cp_R_IR dst src => Sys2Proof.Machine.execCp_R_IR dst src s
  | .cp_R_IM dst im => Sys2Proof.Machine.execCp_R_IM dst im s
  | .cp_IR_IM dst im => Sys2Proof.Machine.execCp_IR_IM dst im s
  | .cpx_ER_ER dst src => Sys2Proof.Machine.execCpx_ER_ER dst src s
  | .cpx_ER_IM dst im => Sys2Proof.Machine.execCpx_ER_IM dst im s
  | .cpc_r_r dst src => Sys2Proof.Machine.execCpc_r_r dst src s
  | .cpc_r_Ir dst src => Sys2Proof.Machine.execCpc_r_Ir dst src s
  | .cpc_R_R dst src => Sys2Proof.Machine.execCpc_R_R dst src s
  | .cpc_R_IR dst src => Sys2Proof.Machine.execCpc_R_IR dst src s
  | .cpc_R_IM dst im => Sys2Proof.Machine.execCpc_R_IM dst im s
  | .cpc_IR_IM dst im => Sys2Proof.Machine.execCpc_IR_IM dst im s
  | .cpcx_ER_ER dst src => Sys2Proof.Machine.execCpcx_ER_ER dst src s
  | .cpcx_ER_IM dst im => Sys2Proof.Machine.execCpcx_ER_IM dst im s
  | .da_R dst => Sys2Proof.Machine.execDa_R dst s
  | .da_IR dst => Sys2Proof.Machine.execDa_IR dst s
  | .dec_R dst => Sys2Proof.Machine.execDec_R dst s
  | .dec_IR dst => Sys2Proof.Machine.execDec_IR dst s
  | .decw_RR dst => Sys2Proof.Machine.execDecw_RR dst s
  | .decw_IR dst => Sys2Proof.Machine.execDecw_IR dst s
  | .inc_r dst => Sys2Proof.Machine.execInc_r dst s
  | .inc_R dst => Sys2Proof.Machine.execInc_R dst s
  | .inc_IR dst => Sys2Proof.Machine.execInc_IR dst s
  | .incw_RR dst => Sys2Proof.Machine.execIncw_RR dst s
  | .incw_IR dst => Sys2Proof.Machine.execIncw_IR dst s
  | .mult_RR dst => Sys2Proof.Machine.execMult_RR dst s
  | .sbc_r_r dst src => Sys2Proof.Machine.execSbc_r_r dst src s
  | .sbc_r_Ir dst src => Sys2Proof.Machine.execSbc_r_Ir dst src s
  | .sbc_R_R dst src => Sys2Proof.Machine.execSbc_R_R dst src s
  | .sbc_R_IR dst src => Sys2Proof.Machine.execSbc_R_IR dst src s
  | .sbc_R_IM dst im => Sys2Proof.Machine.execSbc_R_IM dst im s
  | .sbc_IR_IM dst im => Sys2Proof.Machine.execSbc_IR_IM dst im s
  | .sbcx_ER_ER dst src => Sys2Proof.Machine.execSbcx_ER_ER dst src s
  | .sbcx_ER_IM dst im => Sys2Proof.Machine.execSbcx_ER_IM dst im s
  | .sub_r_r dst src => Sys2Proof.Machine.execSub_r_r dst src s
  | .sub_r_Ir dst src => Sys2Proof.Machine.execSub_r_Ir dst src s
  | .sub_R_R dst src => Sys2Proof.Machine.execSub_R_R dst src s
  | .sub_R_IR dst src => Sys2Proof.Machine.execSub_R_IR dst src s
  | .sub_R_IM dst im => Sys2Proof.Machine.execSub_R_IM dst im s
  | .sub_IR_IM dst im => Sys2Proof.Machine.execSub_IR_IM dst im s
  | .subx_ER_ER dst src => Sys2Proof.Machine.execSubx_ER_ER dst src s
  | .subx_ER_IM dst im => Sys2Proof.Machine.execSubx_ER_IM dst im s
  -- bit manipulation
  | .bit p b dst => Sys2Proof.Machine.execBit p b dst s
  | .bclr b dst => Sys2Proof.Machine.execBclr b dst s
  | .bset b dst => Sys2Proof.Machine.execBset b dst s
  | .bswap_R dst => Sys2Proof.Machine.execBswap_R dst s
  | .ccf => Sys2Proof.Machine.execCcf s
  | .rcf => Sys2Proof.Machine.execRcf s
  | .scf => Sys2Proof.Machine.execScf s
  | .tcm_r_r dst src => Sys2Proof.Machine.execTcm_r_r dst src s
  | .tcm_r_Ir dst src => Sys2Proof.Machine.execTcm_r_Ir dst src s
  | .tcm_R_R dst src => Sys2Proof.Machine.execTcm_R_R dst src s
  | .tcm_R_IR dst src => Sys2Proof.Machine.execTcm_R_IR dst src s
  | .tcm_R_IM dst im => Sys2Proof.Machine.execTcm_R_IM dst im s
  | .tcm_IR_IM dst im => Sys2Proof.Machine.execTcm_IR_IM dst im s
  | .tcmx_ER_ER dst src => Sys2Proof.Machine.execTcmx_ER_ER dst src s
  | .tcmx_ER_IM dst im => Sys2Proof.Machine.execTcmx_ER_IM dst im s
  | .tm_r_r dst src => Sys2Proof.Machine.execTm_r_r dst src s
  | .tm_r_Ir dst src => Sys2Proof.Machine.execTm_r_Ir dst src s
  | .tm_R_R dst src => Sys2Proof.Machine.execTm_R_R dst src s
  | .tm_R_IR dst src => Sys2Proof.Machine.execTm_R_IR dst src s
  | .tm_R_IM dst im => Sys2Proof.Machine.execTm_R_IM dst im s
  | .tm_IR_IM dst im => Sys2Proof.Machine.execTm_IR_IM dst im s
  | .tmx_ER_ER dst src => Sys2Proof.Machine.execTmx_ER_ER dst src s
  | .tmx_ER_IM dst im => Sys2Proof.Machine.execTmx_ER_IM dst im s
  -- block transfer
  | .ldc_r_Irr dst src => Sys2Proof.Machine.execLdc_r_Irr dst src s
  | .ldc_Ir_Irr dst src => Sys2Proof.Machine.execLdc_Ir_Irr dst src s
  | .ldc_Irr_r dst src => Sys2Proof.Machine.execLdc_Irr_r dst src s
  | .ldci_Ir_Irr dst src => Sys2Proof.Machine.execLdci_Ir_Irr dst src s
  | .ldci_Irr_Ir dst src => Sys2Proof.Machine.execLdci_Irr_Ir dst src s
  | .lde_r_Irr dst src => Sys2Proof.Machine.execLde_r_Irr dst src s
  | .lde_Irr_r dst src => Sys2Proof.Machine.execLde_Irr_r dst src s
  | .ldei_Ir_Irr dst src => Sys2Proof.Machine.execLdei_Ir_Irr dst src s
  | .ldei_Irr_Ir dst src => Sys2Proof.Machine.execLdei_Irr_Ir dst src s
  -- CPU control
  | .atm => Sys2Proof.Machine.execAtm s
  | .di => Sys2Proof.Machine.execDi s
  | .ei => Sys2Proof.Machine.execEi s
  | .halt => Sys2Proof.Machine.execHalt s
  | .nop => Sys2Proof.Machine.execNop s
  | .srp im => Sys2Proof.Machine.execSrp im s
  | .stop => Sys2Proof.Machine.execStop s
  | .wdt => Sys2Proof.Machine.execWdt s
  -- load
  | .clr_R dst => Sys2Proof.Machine.execClr_R dst s
  | .clr_IR dst => Sys2Proof.Machine.execClr_IR dst s
  | .ld_r_IM dst im => Sys2Proof.Machine.execLd_r_IM dst im s
  | .ld_R_IM dst im => Sys2Proof.Machine.execLd_R_IM dst im s
  | .ld_IR_IM dst im => Sys2Proof.Machine.execLd_IR_IM dst im s
  | .ld_r_Ir dst src => Sys2Proof.Machine.execLd_r_Ir dst src s
  | .ld_Ir_r dst src => Sys2Proof.Machine.execLd_Ir_r dst src s
  | .ld_R_R dst src => Sys2Proof.Machine.execLd_R_R dst src s
  | .ld_R_IR dst src => Sys2Proof.Machine.execLd_R_IR dst src s
  | .ld_IR_R dst src => Sys2Proof.Machine.execLd_IR_R dst src s
  | .ld_r_Xr dst base x => Sys2Proof.Machine.execLd_r_Xr dst base x s
  | .ld_Xr_r base x src => Sys2Proof.Machine.execLd_Xr_r base x src s
  | .ldwx_ER_ER dst src => Sys2Proof.Machine.execLdwx_ER_ER dst src s
  | .ldx_r_ER dst src => Sys2Proof.Machine.execLdx_r_ER dst src s
  | .ldx_Ir_ER dst src => Sys2Proof.Machine.execLdx_Ir_ER dst src s
  | .ldx_R_IRR dst src => Sys2Proof.Machine.execLdx_R_IRR dst src s
  | .ldx_IR_IRR dst src => Sys2Proof.Machine.execLdx_IR_IRR dst src s
  | .ldx_r_Xrr dst base x => Sys2Proof.Machine.execLdx_r_Xrr dst base x s
  | .ldx_Xrr_r base x src => Sys2Proof.Machine.execLdx_Xrr_r base x src s
  | .ldx_ER_r dst src => Sys2Proof.Machine.execLdx_ER_r dst src s
  | .ldx_ER_Ir dst src => Sys2Proof.Machine.execLdx_ER_Ir dst src s
  | .ldx_IRR_R dst src => Sys2Proof.Machine.execLdx_IRR_R dst src s
  | .ldx_IRR_IR dst src => Sys2Proof.Machine.execLdx_IRR_IR dst src s
  | .ldx_ER_ER dst src => Sys2Proof.Machine.execLdx_ER_ER dst src s
  | .ldx_ER_IM dst im => Sys2Proof.Machine.execLdx_ER_IM dst im s
  | .lea_r_Xr dst base x => Sys2Proof.Machine.execLea_r_Xr dst base x s
  | .lea_rr_Xrr dst base x => Sys2Proof.Machine.execLea_rr_Xrr dst base x s
  | .pop_R dst => Sys2Proof.Machine.execPop_R dst s
  | .pop_IR dst => Sys2Proof.Machine.execPop_IR dst s
  | .popx_ER dst => Sys2Proof.Machine.execPopx_ER dst s
  | .push_R src => Sys2Proof.Machine.execPush_R src s
  | .push_IR src => Sys2Proof.Machine.execPush_IR src s
  | .push_IM im => Sys2Proof.Machine.execPush_IM im s
  | .pushx_ER src => Sys2Proof.Machine.execPushx_ER src s
  -- logical
  | .and_r_r dst src => Sys2Proof.Machine.execAnd_r_r dst src s
  | .and_r_Ir dst src => Sys2Proof.Machine.execAnd_r_Ir dst src s
  | .and_R_R dst src => Sys2Proof.Machine.execAnd_R_R dst src s
  | .and_R_IR dst src => Sys2Proof.Machine.execAnd_R_IR dst src s
  | .and_R_IM dst im => Sys2Proof.Machine.execAnd_R_IM dst im s
  | .and_IR_IM dst im => Sys2Proof.Machine.execAnd_IR_IM dst im s
  | .andx_ER_ER dst src => Sys2Proof.Machine.execAndx_ER_ER dst src s
  | .andx_ER_IM dst im => Sys2Proof.Machine.execAndx_ER_IM dst im s
  | .com_R dst => Sys2Proof.Machine.execCom_R dst s
  | .com_IR dst => Sys2Proof.Machine.execCom_IR dst s
  | .or_r_r dst src => Sys2Proof.Machine.execOr_r_r dst src s
  | .or_r_Ir dst src => Sys2Proof.Machine.execOr_r_Ir dst src s
  | .or_R_R dst src => Sys2Proof.Machine.execOr_R_R dst src s
  | .or_R_IR dst src => Sys2Proof.Machine.execOr_R_IR dst src s
  | .or_R_IM dst im => Sys2Proof.Machine.execOr_R_IM dst im s
  | .or_IR_IM dst im => Sys2Proof.Machine.execOr_IR_IM dst im s
  | .orx_ER_ER dst src => Sys2Proof.Machine.execOrx_ER_ER dst src s
  | .orx_ER_IM dst im => Sys2Proof.Machine.execOrx_ER_IM dst im s
  | .xor_r_r dst src => Sys2Proof.Machine.execXor_r_r dst src s
  | .xor_r_Ir dst src => Sys2Proof.Machine.execXor_r_Ir dst src s
  | .xor_R_R dst src => Sys2Proof.Machine.execXor_R_R dst src s
  | .xor_R_IR dst src => Sys2Proof.Machine.execXor_R_IR dst src s
  | .xor_R_IM dst im => Sys2Proof.Machine.execXor_R_IM dst im s
  | .xor_IR_IM dst im => Sys2Proof.Machine.execXor_IR_IM dst im s
  | .xorx_ER_ER dst src => Sys2Proof.Machine.execXorx_ER_ER dst src s
  | .xorx_ER_IM dst im => Sys2Proof.Machine.execXorx_ER_IM dst im s
  -- program control
  | .brk => Sys2Proof.Machine.execBrk s
  | .btj_r p b src x => Sys2Proof.Machine.execBtj_r p b src x s
  | .btj_Ir p b src x => Sys2Proof.Machine.execBtj_Ir p b src x s
  | .btjnz_r b src x => Sys2Proof.Machine.execBtjnz_r b src x s
  | .btjnz_Ir b src x => Sys2Proof.Machine.execBtjnz_Ir b src x s
  | .btjz_r b src x => Sys2Proof.Machine.execBtjz_r b src x s
  | .btjz_Ir b src x => Sys2Proof.Machine.execBtjz_Ir b src x s
  | .call_IRR dst => Sys2Proof.Machine.execCall_IRR dst s
  | .call_DA target => Sys2Proof.Machine.execCall_DA target s
  | .djnz dst x => Sys2Proof.Machine.execDjnz dst x s
  | .iret => Sys2Proof.Machine.execIret s
  | .jp_IRR dst => Sys2Proof.Machine.execJp_IRR dst s
  | .jp_DA target => Sys2Proof.Machine.execJp_DA target s
  | .jp_cc cc target => Sys2Proof.Machine.execJp_cc cc target s
  | .jr x => Sys2Proof.Machine.execJr x s
  | .jr_cc cc x => Sys2Proof.Machine.execJr_cc cc x s
  | .ret => Sys2Proof.Machine.execRet s
  | .trap vector => Sys2Proof.Machine.execTrap vector s
  -- rotate and shift
  | .rl_R dst => Sys2Proof.Machine.execRl_R dst s
  | .rl_IR dst => Sys2Proof.Machine.execRl_IR dst s
  | .rlc_R dst => Sys2Proof.Machine.execRlc_R dst s
  | .rlc_IR dst => Sys2Proof.Machine.execRlc_IR dst s
  | .rr_R dst => Sys2Proof.Machine.execRr_R dst s
  | .rr_IR dst => Sys2Proof.Machine.execRr_IR dst s
  | .rrc_R dst => Sys2Proof.Machine.execRrc_R dst s
  | .rrc_IR dst => Sys2Proof.Machine.execRrc_IR dst s
  | .sra_R dst => Sys2Proof.Machine.execSra_R dst s
  | .sra_IR dst => Sys2Proof.Machine.execSra_IR dst s
  | .srl_R dst => Sys2Proof.Machine.execSrl_R dst s
  | .srl_IR dst => Sys2Proof.Machine.execSrl_IR dst s
  | .swap_R dst => Sys2Proof.Machine.execSwap_R dst s
  | .swap_IR dst => Sys2Proof.Machine.execSwap_IR dst s

end Sys2Proof.Machine
end

