-- ==== Sys2Proof/Machine/Cycle.lean ====
section
/-!
DEFINITION. One CPU step (00_scope.md R15): the outside agents' move, the grant of an interrupt, the fetch, and
what stands around an instruction's own meaning. `Step.lean` only calls this.
-/

namespace Sys2Proof.Machine

/-! ### Fetch -/

/-- Byte `k` of the instruction at the Program Counter, as the Fetch Unit delivers it: where a store since the last
taken branch changed the byte, the old one or the new one (20_memory.md R89, notes/assumptions/13.md). -/
def fetchByte (k : Nat) (s : State) : Byte :=
  let a := s.pc + BitVec.ofNat 16 k
  match staleByte s.stale a.toNat with
  | none => programByte a s
  | some old => if Config.freeBit s.tick (.fetch k) then old else programByte a s

/-- The five bytes from the Program Counter on, enough for any instruction (30_encoding.md R110). -/
def fetchBytes (s : State) : List Byte :=
  [fetchByte 0 s, fetchByte 1 s, fetchByte 2 s, fetchByte 3 s, fetchByte 4 s]

/-! ### The instruction -/

/-- Whether the instruction counts down the atomic block it stands in as its last action: every one but ATM
(43_cpu_control.md R240), and HALT and STOP, for which the rest of the block is open
(notes/assumptions/14.md). -/
def countsDown (i : Instr) : Bool := decide (i ≠ .atm) && decide (i ≠ .halt) && decide (i ≠ .stop)

/-- What follows every step of the core: the next step begins with no outside agent's move left over. -/
def closeStep (s : State) : State := withMidway [] (withTick (s.tick + 1) s)

/-- What follows an instruction's own effect. -/
def closeInstruction (i : Instr) (s : State) : State :=
  closeStep (if countsDown i then withAtm (s.atm - 1) s else s)

/-- The instruction `i` of `length` bytes at the Program Counter: the Program Counter is advanced first
(00_scope.md R15). -/
def runInstruction (i : Instr) (length : Nat) (s : State) : Out :=
  match exec i (withPc (s.pc + BitVec.ofNat 16 length) s) with
  | .next s1 => .next (closeInstruction i s1)
  | .fault f => .fault f
  | .refused r => .refused r

/-- A step that is no instruction of its own: an exception entry. -/
def closeEntry (r : Res State) : Out :=
  match finish r with
  | .next s => .next (closeStep s)
  | .fault f => .fault f
  | .refused e => .refused e

/-- The Illegal Instruction Trap of the instruction at the Program Counter (30_encoding.md R147). -/
def trapHere (s : State) : Out := closeEntry (illegalInstruction s.pc s)

/-- Fetch, decode, execute (00_scope.md R15, parts 2 and 3). -/
def executeHere (s : State) : Out :=
  match decode (fetchBytes s) with
  | .ok i n => runInstruction i n s
  | .reserved i n =>
    match s.product.reservedBits with
    | .ignore => runInstruction i n s
    | .illegal => trapHere s
  | .illegalFirst _ => trapHere s
  | .illegalSecond _ => trapHere s
  | .truncated => trapHere s

/-! ### The agents outside the core -/

/-- The run mode lets the event `e` through: Run mode every one, Halt and Stop mode those that end it
(60_exceptions.md R366 condition d, R382). -/
def modeAllows (e : WakeEvent) (s : State) : Bool :=
  match s.mode with
  | .run => true
  | .halt => decide (e ∈ s.product.haltWake)
  | .stop => decide (e ∈ s.product.stopWake)

/-- `v` is a vector address the Interrupt Controller can present (00_scope.md R5 `IRQ_VECTORS`: even addresses from
0008h). -/
def isVector (v : Word) (s : State) : Bool :=
  s.product.irqVectors.contains v && !v.getLsbD 0 && decide (8 ≤ v.toNat)

/-- The offered vector `v` is granted (60_exceptions.md R366). -/
def granted (v : Word) (s : State) : Bool :=
  isVector v s && interruptsEnabled s && decide (s.atm = 0) && modeAllows .grantedInterrupt s

/-- The offered vector `v` is masked by IRQCTL[7] and ends Halt or Stop mode without an entry (92_eei_decisions.md
D14, D15). -/
def wakesMasked (v : Word) (s : State) : Bool :=
  isVector v s && !interruptsEnabled s && decide (s.atm = 0) && decide (s.mode ≠ .run) && modeAllows .maskedRequest s

/-- The step of the core without an interrupt: in Halt and Stop mode no instruction is executed
(43_cpu_control.md R243, R247). -/
def coreStep (s : State) : Out :=
  match s.mode with
  | .run => executeHere s
  | .halt => .next (closeStep s)
  | .stop => .next (closeStep s)

/-- The step of the core where the Interrupt Controller offers `v` (00_scope.md R15, part 1). -/
def offeredStep (v : Word) (s : State) : Out :=
  if granted v s then closeEntry (interruptEntry v s)
  else if wakesMasked v s then .next (closeStep (withMode .run s))
  else coreStep s

/-- The Watchdog Timer can time out: it is enabled, and long enough ago (43_cpu_control.md R248 `WDT_MODEL`). -/
def timeoutDue (s : State) : Bool := s.wdtOn && decide (s.wdtStart + s.product.watchdog.earliest ≤ s.tick)

/-- A time-out that enters through its vector is let in (60_exceptions.md R381; notes/assumptions/37.md). -/
def timeoutGranted (maskable : Bool) (s : State) : Bool :=
  decide (s.atm = 0) && (!maskable || interruptsEnabled s) && modeAllows .watchdogTimeout s

/-- The step of the core where the Watchdog Timer times out (60_exceptions.md R381; notes/assumptions/37.md). -/
def timeoutStep (s : State) : Out :=
  if timeoutDue s then
    match s.product.watchdog.action with
    | .never => coreStep s
    | .reset => .next (resetAgain s)
    | .vector pushesFrame maskable clears =>
      if timeoutGranted maskable s then closeEntry (timeoutEntry pushesFrame clears s) else coreStep s
  else coreStep s

/-- The step of the core with what it is signalled. -/
def signalledStep (g : Signal) (s : State) : Out :=
  match g with
  | .quiet => coreStep s
  | .offer v => offeredStep v s
  | .timeout => timeoutStep s

/-- One step of the machine: an outside agent's move between two instructions, or the core's step with the moves that
come between its byte accesses. -/
def cycle (s : State) : Out :=
  match s.inputs with
  | [] => coreStep (withMidway [] s)
  | .agent m :: rest => finish (makeMove m (withMidway [] (withInputs rest s)))
  | .core g ms :: rest => signalledStep g (withMidway ms (withInputs rest s))

/-! ### Placing an instruction -/

/-- The byte `v` at Program Memory address `a`, put there from outside: the address exists, and the Fetch Unit
holds nothing else for it. -/
def placeByte (a : Word) (v : Byte) (s : State) : State :=
  let p := s.product
  let regions := if covers p.pmAvailable a.toNat then p.pmAvailable else ⟨a.toNat, a.toNat⟩ :: p.pmAvailable
  { s with
    product := { p with pmAvailable := regions }
    pm := writeCell memBlank s.pm a.toNat v
    stale := s.stale.filter fun c => decide (c.1 ≠ a.toNat) }

/-- The bytes `bs` from address `a` on. -/
def placeBytes : Word → List Byte → State → State
  | _, [], s => s
  | a, b :: bs, s => placeBytes (a + 1) bs (placeByte a b s)

/-- `s` with the instruction of these bytes next to run: it stands at the Program Counter, the core runs, and no
outside agent moves first. -/
def placeInstruction (bytes : List Byte) (s : State) : State :=
  let s1 := placeBytes s.pc (padded bytes) (withMode .run s)
  match s1.inputs with
  | [] => s1
  | i :: rest => withInputs (.core .quiet [] :: i :: rest) s1

end Sys2Proof.Machine
end

