-- ==== Sys2Proof/Machine/Step.lean ====
section
/-!
DEFINITION. The step function, and where it fetches its next instruction.
-/

namespace Sys2Proof.Machine

/-- One step of the machine (00_scope.md R15). -/
def step (s : State) : Host.Outcome State Fault Refusal := cycle s

/-- `s` with the instruction spec/opcode_table.json numbers `w` in `nbits` bits stored where `step` fetches next.
notes/assumptions/22.md. -/
def State.withFetchWord (s : State) (nbits w : Nat) : State := placeInstruction (tableBytes nbits w) s

end Sys2Proof.Machine
end

