-- ==== Sys2Proof/Machine/Timing.lean ====
section
/-!
DEFINITION. The manual's cycle counts (70_reset_and_hazards.md R441 to R444). They are informational (R440): no
cycle counter is part of `State` and nothing else depends on this file (notes/assumptions/31.md).
-/

namespace Sys2Proof.Machine

/-- Fetch cycles: the number of bytes, the 1Fh byte included (70_reset_and_hazards.md R442, 30_encoding.md R114).
-/
def fetchCycles (i : Instr) : Nat := (encode i).length

/-- Instruction cycles: the second number of the table (70_reset_and_hazards.md R442). For DJNZ the number of the
case without a jump; `djnzTakenCycles` is the other. LD R1, @R2 is 3, as 90_conflicts.md C2 says. -/
def instructionCycles : Instr → Nat
  | .adc_r_r _ _ => 3
  | .adc_r_Ir _ _ => 4
  | .adc_R_R _ _ => 3
  | .adc_R_IR _ _ => 4
  | .adc_R_IM _ _ => 3
  | .adc_IR_IM _ _ => 4
  | .adcx_ER_ER _ _ => 3
  | .adcx_ER_IM _ _ => 3
  | .add_r_r _ _ => 3
  | .add_r_Ir _ _ => 4
  | .add_R_R _ _ => 3
  | .add_R_IR _ _ => 4
  | .add_R_IM _ _ => 3
  | .add_IR_IM _ _ => 4
  | .addx_ER_ER _ _ => 3
  | .addx_ER_IM _ _ => 3
  | .cp_r_r _ _ => 3
  | .cp_r_Ir _ _ => 4
  | .cp_R_R _ _ => 3
  | .cp_R_IR _ _ => 4
  | .cp_R_IM _ _ => 3
  | .cp_IR_IM _ _ => 4
  | .cpx_ER_ER _ _ => 3
  | .cpx_ER_IM _ _ => 3
  | .cpc_r_r _ _ => 3
  | .cpc_r_Ir _ _ => 4
  | .cpc_R_R _ _ => 3
  | .cpc_R_IR _ _ => 4
  | .cpc_R_IM _ _ => 3
  | .cpc_IR_IM _ _ => 4
  | .cpcx_ER_ER _ _ => 3
  | .cpcx_ER_IM _ _ => 3
  | .da_R _ => 2
  | .da_IR _ => 3
  | .dec_R _ => 2
  | .dec_IR _ => 3
  | .decw_RR _ => 5
  | .decw_IR _ => 6
  | .inc_r _ => 2
  | .inc_R _ => 2
  | .inc_IR _ => 3
  | .incw_RR _ => 5
  | .incw_IR _ => 6
  | .mult_RR _ => 8
  | .sbc_r_r _ _ => 3
  | .sbc_r_Ir _ _ => 4
  | .sbc_R_R _ _ => 3
  | .sbc_R_IR _ _ => 4
  | .sbc_R_IM _ _ => 3
  | .sbc_IR_IM _ _ => 4
  | .sbcx_ER_ER _ _ => 3
  | .sbcx_ER_IM _ _ => 3
  | .sub_r_r _ _ => 3
  | .sub_r_Ir _ _ => 4
  | .sub_R_R _ _ => 3
  | .sub_R_IR _ _ => 4
  | .sub_R_IM _ _ => 3
  | .sub_IR_IM _ _ => 4
  | .subx_ER_ER _ _ => 3
  | .subx_ER_IM _ _ => 3
  | .bit _ _ _ => 2
  | .bclr _ _ => 2
  | .bset _ _ => 2
  | .bswap_R _ => 2
  | .ccf => 2
  | .rcf => 2
  | .scf => 2
  | .tcm_r_r _ _ => 3
  | .tcm_r_Ir _ _ => 4
  | .tcm_R_R _ _ => 3
  | .tcm_R_IR _ _ => 4
  | .tcm_R_IM _ _ => 3
  | .tcm_IR_IM _ _ => 4
  | .tcmx_ER_ER _ _ => 3
  | .tcmx_ER_IM _ _ => 3
  | .tm_r_r _ _ => 3
  | .tm_r_Ir _ _ => 4
  | .tm_R_R _ _ => 3
  | .tm_R_IR _ _ => 4
  | .tm_R_IM _ _ => 3
  | .tm_IR_IM _ _ => 4
  | .tmx_ER_ER _ _ => 3
  | .tmx_ER_IM _ _ => 3
  | .ldc_r_Irr _ _ => 5
  | .ldc_Ir_Irr _ _ => 9
  | .ldc_Irr_r _ _ => 5
  | .ldci_Ir_Irr _ _ => 9
  | .ldci_Irr_Ir _ _ => 9
  | .lde_r_Irr _ _ => 5
  | .lde_Irr_r _ _ => 5
  | .ldei_Ir_Irr _ _ => 9
  | .ldei_Irr_Ir _ _ => 9
  | .atm => 2
  | .di => 2
  | .ei => 2
  | .halt => 2
  | .nop => 2
  | .srp _ => 2
  | .stop => 2
  | .wdt => 2
  | .clr_R _ => 2
  | .clr_IR _ => 3
  | .ld_r_IM _ _ => 2
  | .ld_R_IM _ _ => 2
  | .ld_IR_IM _ _ => 3
  | .ld_r_Ir _ _ => 3
  | .ld_Ir_r _ _ => 3
  | .ld_R_R _ _ => 2
  | .ld_R_IR _ _ => 3
  | .ld_IR_R _ _ => 3
  | .ld_r_Xr _ _ _ => 3
  | .ld_Xr_r _ _ _ => 4
  | .ldwx_ER_ER _ _ => 4
  | .ldx_r_ER _ _ => 2
  | .ldx_Ir_ER _ _ => 3
  | .ldx_R_IRR _ _ => 4
  | .ldx_IR_IRR _ _ => 5
  | .ldx_r_Xrr _ _ _ => 4
  | .ldx_Xrr_r _ _ _ => 4
  | .ldx_ER_r _ _ => 2
  | .ldx_ER_Ir _ _ => 3
  | .ldx_IRR_R _ _ => 4
  | .ldx_IRR_IR _ _ => 5
  | .ldx_ER_ER _ _ => 2
  | .ldx_ER_IM _ _ => 2
  | .lea_r_Xr _ _ _ => 3
  | .lea_rr_Xrr _ _ _ => 5
  | .pop_R _ => 2
  | .pop_IR _ => 3
  | .popx_ER _ => 2
  | .push_R _ => 2
  | .push_IR _ => 3
  | .push_IM _ => 2
  | .pushx_ER _ => 2
  | .and_r_r _ _ => 3
  | .and_r_Ir _ _ => 4
  | .and_R_R _ _ => 3
  | .and_R_IR _ _ => 4
  | .and_R_IM _ _ => 3
  | .and_IR_IM _ _ => 4
  | .andx_ER_ER _ _ => 3
  | .andx_ER_IM _ _ => 3
  | .com_R _ => 2
  | .com_IR _ => 3
  | .or_r_r _ _ => 3
  | .or_r_Ir _ _ => 4
  | .or_R_R _ _ => 3
  | .or_R_IR _ _ => 4
  | .or_R_IM _ _ => 3
  | .or_IR_IM _ _ => 4
  | .orx_ER_ER _ _ => 3
  | .orx_ER_IM _ _ => 3
  | .xor_r_r _ _ => 3
  | .xor_r_Ir _ _ => 4
  | .xor_R_R _ _ => 3
  | .xor_R_IR _ _ => 4
  | .xor_R_IM _ _ => 3
  | .xor_IR_IM _ _ => 4
  | .xorx_ER_ER _ _ => 3
  | .xorx_ER_IM _ _ => 3
  | .brk => 2
  | .btj_r _ _ _ _ => 3
  | .btj_Ir _ _ _ _ => 4
  | .btjnz_r _ _ _ => 3
  | .btjnz_Ir _ _ _ => 4
  | .btjz_r _ _ _ => 3
  | .btjz_Ir _ _ _ => 4
  | .call_IRR _ => 6
  | .call_DA _ => 3
  | .djnz _ _ => 3
  | .iret => 5
  | .jp_IRR _ => 3
  | .jp_DA _ => 2
  | .jp_cc _ _ => 2
  | .jr _ => 2
  | .jr_cc _ _ => 2
  | .ret => 4
  | .trap _ => 6
  | .rl_R _ => 2
  | .rl_IR _ => 3
  | .rlc_R _ => 2
  | .rlc_IR _ => 3
  | .rr_R _ => 2
  | .rr_IR _ => 3
  | .rrc_R _ => 2
  | .rrc_IR _ => 3
  | .sra_R _ => 2
  | .sra_IR _ => 3
  | .srl_R _ => 2
  | .srl_IR _ => 3
  | .swap_R _ => 2
  | .swap_IR _ => 3

/-- Instruction cycles of a DJNZ that jumps (70_reset_and_hazards.md R442). -/
def djnzTakenCycles : Nat := 4

/-- The extra cycle of a taken branch (70_reset_and_hazards.md R443). -/
def flushCycles : Nat := 1

/-- The cost of `i` followed in straight line by `next`: a delay cycle for each byte of `next` beyond the cycles of
`i` (70_reset_and_hazards.md R444). -/
def straightCost (i next : Instr) : Nat := max (instructionCycles i) (fetchCycles next)

end Sys2Proof.Machine
end

