-- ==== Sys2Proof/Safety.lean ====
section
/-!
DEFINITION. What every step keeps (`State.Inv`), and what a safe run is: one that never stops.
-/

namespace Sys2Proof.Machine

/-- What the model's state always satisfies: the memories keep their canonical form and lie in their address
spaces (20_memory.md R70), no register of the core is stored a second time in `rf`, registers that do not exist
hold nothing, the atomic-block counter is 0 to 3 (10_state.md R48), and between two steps no move of an outside agent
is left over. -/
structure State.Inv (s : State) : Prop where
  rf_wf : Memory.wf rfBlank s.rf = true
  pm_wf : Memory.wf memBlank s.pm = true
  dm_wf : Memory.wf memBlank s.dm = true
  rf_own : ∀ c ∈ s.rf, c.1 < 0xFFC ∧ c.1 ≠ 0xFCF
  rf_exists : ∀ c ∈ s.rf, covers s.product.rfAvailable c.1 = true
  pm_bound : ∀ c ∈ s.pm, c.1 < 65536
  dm_bound : ∀ c ∈ s.dm, c.1 < 65536
  atm_le : s.atm ≤ 3
  midway_nil : s.midway = []

/-- The step does not stop. -/
def goesOn : Out → Prop
  | .next _ => True
  | .fault _ => False
  | .refused _ => False

/-- The state after `n` steps, if none of them stops. -/
def stateAfter : Nat → State → Option State
  | 0, s => some s
  | n + 1, s =>
    match step s with
    | .next s1 => stateAfter n s1
    | .fault _ => none
    | .refused _ => none

/-- `n` steps from `s` on, none of which stops. -/
def safeFor (n : Nat) (s : State) : Prop := (stateAfter n s).isSome = true

end Sys2Proof.Machine
end

