-- ==== Sys2Proof/Certificates/Slice0/Obligations.lean ====
section
/-!
DEFINITION. The statements for the provers. `Sys2Proof.Claims` holds what they are said with: the operand tables of
the specification, and flags and results as formulas over integers, written from the rules and not from the model's
own definitions.

Every statement about an instruction is an equation `exec i s = .next …` under hypotheses on the state and the operands
alone. `exec` runs with the Program Counter already at the next instruction (00_scope.md R15, R23). Operand reads are
numbered (`registerValue k a s`); the number matters only for an unavailable register, whose value is free.
-/

namespace Sys2Proof.Claims

open Sys2Proof Sys2Proof.Machine

/-! ### Access -/

/-- Reading register `a` is allowed (20_memory.md R80). -/
def Readable (a : Addr) (s : State) : Prop := accessRight a s ≠ .writeOnly

/-- Writing register `a` is allowed (20_memory.md R80). -/
def Writable (a : Addr) (s : State) : Prop := accessRight a s ≠ .readOnly

/-- A general-purpose register that exists (10_state.md R25). -/
def Plain (a : Addr) (s : State) : Prop := a.toNat < 0xF00 ∧ available a s = true

/-- No outside agent moves between the byte accesses of the instruction (20_memory.md R91). -/
def Undisturbed (s : State) : Prop := s.midway = []

/-- Everything that is no register, and the Program Counter, is as it was: both memories byte by byte, the atomic-block
counter, the mode, the Watchdog Timer, the Fetch Unit, and the model's own fields. -/
structure SameOutside (s t : State) : Prop where
  pc : t.pc = s.pc
  program : ∀ a, programByte a t = programByte a s
  data : ∀ a, dataByte a t = dataByte a s
  atm : t.atm = s.atm
  mode : t.mode = s.mode
  wdtOn : t.wdtOn = s.wdtOn
  stale : t.stale = s.stale
  wdtStart : t.wdtStart = s.wdtStart
  inputs : t.inputs = s.inputs
  outputs : t.outputs = s.outputs
  midway : t.midway = s.midway
  tick : t.tick = s.tick
  product : t.product = s.product

/-- Every register not in `P` reads as it did: general-purpose, peripheral, FLAGS, RP, SPH, SPL and IRQCTL alike. -/
def SameRegistersBut (P : Addr → Prop) (s t : State) : Prop :=
  ∀ a k, ¬ P a → registerValue k a t = registerValue k a s

/-! ### Flags as formulas -/

/-- The C flag as a number. -/
def carryOf (s : State) : Nat := if flag .c s then 1 else 0

/-- `add_flags(d, s, c)` (40_arithmetic.md R172). -/
def addFlags (d s : Byte) (c : Nat) : FlagUpdate :=
  let r := (d.toNat + s.toNat + c) % 256
  { c := some (decide (255 < d.toNat + s.toNat + c))
    z := some (decide (r = 0))
    s := some (decide (128 ≤ r))
    v := some (decide ((128 ≤ d.toNat ↔ 128 ≤ s.toNat) ∧ ¬ (128 ≤ r ↔ 128 ≤ d.toNat)))
    d := some false
    h := some (decide (15 < d.toNat % 16 + s.toNat % 16 + c)) }

/-- `r = (d - s - c) mod 256` as a natural number. -/
def difference (d s : Byte) (c : Nat) : Nat := (((d.toNat : Int) - s.toNat - c) % 256).toNat

/-- `sub_flags(d, s, c)` (40_arithmetic.md R173). -/
def subFlags (d s : Byte) (c : Nat) : FlagUpdate :=
  let r := difference d s c
  { c := some (decide (d.toNat < s.toNat + c))
    z := some (decide (r = 0))
    s := some (decide (128 ≤ r))
    v := some (decide (¬ (128 ≤ d.toNat ↔ 128 ≤ s.toNat) ∧ (128 ≤ r ↔ 128 ≤ s.toNat)))
    d := some true
    h := some (decide (d.toNat % 16 < s.toNat % 16 + c)) }

/-- `sub_flags` without D and H (40_arithmetic.md R173, R178). -/
def compareFlags (d s : Byte) (c : Nat) : FlagUpdate := { subFlags d s c with d := none, h := none }

/-- `sub_flags` without D and H and with the sticky Z (40_arithmetic.md R179). -/
def stickyFlags (zBefore : Bool) (d s : Byte) (c : Nat) : FlagUpdate :=
  { compareFlags d s c with z := some (decide (difference d s c = 0 ∧ zBefore = true)) }

/-- Z and S of the result, V reset; C, D, H unaffected (45_logical.md R297). -/
def logicFlags (r : Byte) : FlagUpdate :=
  { z := some (decide (r.toNat = 0)), s := some (decide (128 ≤ r.toNat)), v := some false }

/-- Z and S of the result and a given V; C, D, H unaffected. -/
def countFlags (r : Byte) (v : Bool) : FlagUpdate :=
  { z := some (decide (r.toNat = 0)), s := some (decide (128 ≤ r.toNat)), v := some v }

/-- C, Z, S, V as given by the carry out, the result and V; D, H unaffected (47_rotate_shift.md R349). -/
def shiftFlags (c : Bool) (r : Nat) (v : Bool) : FlagUpdate :=
  { c := some c, z := some (decide (r = 0)), s := some (decide (128 ≤ r)), v := some v }

/-! ### Operand tables -/

/-- The groups of the two-operand columns. -/
inductive Op2
  | add | adc | sub | sbc | or | and | tcm | tm | cp | cpc | xor
  deriving DecidableEq, Repr

/-- The upper opcode nibble of a group (40_arithmetic.md R170). -/
def Op2.group : Op2 → Nib
  | .add => 0x0
  | .adc => 0x1
  | .sub => 0x2
  | .sbc => 0x3
  | .or => 0x4
  | .and => 0x5
  | .tcm => 0x6
  | .tm => 0x7
  | .cp => 0xA
  | .cpc => 0xA
  | .xor => 0xB

/-- The eight forms of a two-operand group (40_arithmetic.md R170, R171). -/
inductive Form
  | r_r (dst src : Nib)
  | r_Ir (dst src : Nib)
  | R_R (dst src : Byte)
  | R_IR (dst src : Byte)
  | R_IM (dst im : Byte)
  | IR_IM (dst im : Byte)
  | ER_ER (dst src : Addr)
  | ER_IM (dst : Addr) (im : Byte)
  deriving DecidableEq, Repr

/-- The destination of a form: column `da` (40_arithmetic.md R170, R171). -/
def Form.dst : Form → Place
  | .r_r d _ => .working d
  | .r_Ir d _ => .working d
  | .R_R d _ => .short d
  | .R_IR d _ => .short d
  | .R_IM d _ => .short d
  | .IR_IM d _ => .viaShort d
  | .ER_ER d _ => .extended d
  | .ER_IM d _ => .extended d

/-- The source of a form: column `s` (40_arithmetic.md R170, R171). -/
def Form.src : Form → Source
  | .r_r _ s => .place (.working s)
  | .r_Ir _ s => .place (.viaWorking s)
  | .R_R _ s => .place (.short s)
  | .R_IR _ s => .place (.viaShort s)
  | .R_IM _ i => .imm i
  | .IR_IM _ i => .imm i
  | .ER_ER _ s => .place (.extended s)
  | .ER_IM _ i => .imm i

/-- The opcode and operand bytes of a form in the group with upper nibble `g` (40_arithmetic.md R170, R171). -/
def Form.bytes (g : Nib) : Form → List Byte
  | .r_r d s => [g ++ 0x2#4, d ++ s]
  | .r_Ir d s => [g ++ 0x3#4, d ++ s]
  | .R_R d s => [g ++ 0x4#4, s, d]
  | .R_IR d s => [g ++ 0x5#4, s, d]
  | .R_IM d i => [g ++ 0x6#4, d, i]
  | .IR_IM d i => [g ++ 0x7#4, d, i]
  | .ER_ER d s => [g ++ 0x8#4, s.extractLsb' 4 8, s.extractLsb' 0 4 ++ d.extractLsb' 8 4, d.extractLsb' 0 8]
  | .ER_IM d i => [g ++ 0x9#4, i, 0x0#4 ++ d.extractLsb' 8 4, d.extractLsb' 0 8]

/-- The bytes of a form of a group: CPC and CPCX stand on the second map (40_arithmetic.md R170, R171). -/
def Op2.bytes (op : Op2) (f : Form) : List Byte :=
  if op = .cpc then 0x1F :: f.bytes op.group else f.bytes op.group

/-- The eighty-eight instructions of the two-operand groups with their forms (40_arithmetic.md R170, R171). -/
def twoOperand : Instr → Option (Op2 × Form)
  | .add_r_r d s => some (.add, .r_r d s)
  | .add_r_Ir d s => some (.add, .r_Ir d s)
  | .add_R_R d s => some (.add, .R_R d s)
  | .add_R_IR d s => some (.add, .R_IR d s)
  | .add_R_IM d s => some (.add, .R_IM d s)
  | .add_IR_IM d s => some (.add, .IR_IM d s)
  | .addx_ER_ER d s => some (.add, .ER_ER d s)
  | .addx_ER_IM d s => some (.add, .ER_IM d s)
  | .adc_r_r d s => some (.adc, .r_r d s)
  | .adc_r_Ir d s => some (.adc, .r_Ir d s)
  | .adc_R_R d s => some (.adc, .R_R d s)
  | .adc_R_IR d s => some (.adc, .R_IR d s)
  | .adc_R_IM d s => some (.adc, .R_IM d s)
  | .adc_IR_IM d s => some (.adc, .IR_IM d s)
  | .adcx_ER_ER d s => some (.adc, .ER_ER d s)
  | .adcx_ER_IM d s => some (.adc, .ER_IM d s)
  | .sub_r_r d s => some (.sub, .r_r d s)
  | .sub_r_Ir d s => some (.sub, .r_Ir d s)
  | .sub_R_R d s => some (.sub, .R_R d s)
  | .sub_R_IR d s => some (.sub, .R_IR d s)
  | .sub_R_IM d s => some (.sub, .R_IM d s)
  | .sub_IR_IM d s => some (.sub, .IR_IM d s)
  | .subx_ER_ER d s => some (.sub, .ER_ER d s)
  | .subx_ER_IM d s => some (.sub, .ER_IM d s)
  | .sbc_r_r d s => some (.sbc, .r_r d s)
  | .sbc_r_Ir d s => some (.sbc, .r_Ir d s)
  | .sbc_R_R d s => some (.sbc, .R_R d s)
  | .sbc_R_IR d s => some (.sbc, .R_IR d s)
  | .sbc_R_IM d s => some (.sbc, .R_IM d s)
  | .sbc_IR_IM d s => some (.sbc, .IR_IM d s)
  | .sbcx_ER_ER d s => some (.sbc, .ER_ER d s)
  | .sbcx_ER_IM d s => some (.sbc, .ER_IM d s)
  | .or_r_r d s => some (.or, .r_r d s)
  | .or_r_Ir d s => some (.or, .r_Ir d s)
  | .or_R_R d s => some (.or, .R_R d s)
  | .or_R_IR d s => some (.or, .R_IR d s)
  | .or_R_IM d s => some (.or, .R_IM d s)
  | .or_IR_IM d s => some (.or, .IR_IM d s)
  | .orx_ER_ER d s => some (.or, .ER_ER d s)
  | .orx_ER_IM d s => some (.or, .ER_IM d s)
  | .and_r_r d s => some (.and, .r_r d s)
  | .and_r_Ir d s => some (.and, .r_Ir d s)
  | .and_R_R d s => some (.and, .R_R d s)
  | .and_R_IR d s => some (.and, .R_IR d s)
  | .and_R_IM d s => some (.and, .R_IM d s)
  | .and_IR_IM d s => some (.and, .IR_IM d s)
  | .andx_ER_ER d s => some (.and, .ER_ER d s)
  | .andx_ER_IM d s => some (.and, .ER_IM d s)
  | .tcm_r_r d s => some (.tcm, .r_r d s)
  | .tcm_r_Ir d s => some (.tcm, .r_Ir d s)
  | .tcm_R_R d s => some (.tcm, .R_R d s)
  | .tcm_R_IR d s => some (.tcm, .R_IR d s)
  | .tcm_R_IM d s => some (.tcm, .R_IM d s)
  | .tcm_IR_IM d s => some (.tcm, .IR_IM d s)
  | .tcmx_ER_ER d s => some (.tcm, .ER_ER d s)
  | .tcmx_ER_IM d s => some (.tcm, .ER_IM d s)
  | .tm_r_r d s => some (.tm, .r_r d s)
  | .tm_r_Ir d s => some (.tm, .r_Ir d s)
  | .tm_R_R d s => some (.tm, .R_R d s)
  | .tm_R_IR d s => some (.tm, .R_IR d s)
  | .tm_R_IM d s => some (.tm, .R_IM d s)
  | .tm_IR_IM d s => some (.tm, .IR_IM d s)
  | .tmx_ER_ER d s => some (.tm, .ER_ER d s)
  | .tmx_ER_IM d s => some (.tm, .ER_IM d s)
  | .cp_r_r d s => some (.cp, .r_r d s)
  | .cp_r_Ir d s => some (.cp, .r_Ir d s)
  | .cp_R_R d s => some (.cp, .R_R d s)
  | .cp_R_IR d s => some (.cp, .R_IR d s)
  | .cp_R_IM d s => some (.cp, .R_IM d s)
  | .cp_IR_IM d s => some (.cp, .IR_IM d s)
  | .cpx_ER_ER d s => some (.cp, .ER_ER d s)
  | .cpx_ER_IM d s => some (.cp, .ER_IM d s)
  | .cpc_r_r d s => some (.cpc, .r_r d s)
  | .cpc_r_Ir d s => some (.cpc, .r_Ir d s)
  | .cpc_R_R d s => some (.cpc, .R_R d s)
  | .cpc_R_IR d s => some (.cpc, .R_IR d s)
  | .cpc_R_IM d s => some (.cpc, .R_IM d s)
  | .cpc_IR_IM d s => some (.cpc, .IR_IM d s)
  | .cpcx_ER_ER d s => some (.cpc, .ER_ER d s)
  | .cpcx_ER_IM d s => some (.cpc, .ER_IM d s)
  | .xor_r_r d s => some (.xor, .r_r d s)
  | .xor_r_Ir d s => some (.xor, .r_Ir d s)
  | .xor_R_R d s => some (.xor, .R_R d s)
  | .xor_R_IR d s => some (.xor, .R_IR d s)
  | .xor_R_IM d s => some (.xor, .R_IM d s)
  | .xor_IR_IM d s => some (.xor, .IR_IM d s)
  | .xorx_ER_ER d s => some (.xor, .ER_ER d s)
  | .xorx_ER_IM d s => some (.xor, .ER_IM d s)
  | _ => none

/-- The one-operand instructions that read and write one byte. -/
inductive Op1
  | inc | dec | com | rl | rlc | rr | rrc | sra | srl | swap | bswap | da
  deriving DecidableEq, Repr

/-- The opcode of the direct form; the indirect form's is one more (47_rotate_shift.md R340, R349; 40_arithmetic.md R182,
R184, R186; 41_bit_manipulation.md R213; 45_logical.md R292). -/
def Op1.code : Op1 → Byte
  | .inc => 0x20
  | .dec => 0x30
  | .com => 0x60
  | .rl => 0x90
  | .rlc => 0x10
  | .rr => 0xE0
  | .rrc => 0xC0
  | .sra => 0xD0
  | .srl => 0xC0
  | .swap => 0xF0
  | .bswap => 0xD5
  | .da => 0x40

/-- The bytes of a one-operand instruction: SRL stands on the second map, INC r1 is one byte. -/
def Op1.bytes (op : Op1) (p : Place) : List Byte :=
  match p with
  | .working n => [n ++ 0xE#4]
  | .viaShort a => if op = .srl then [0x1F, op.code + 1, a] else [op.code + 1, a]
  | .short a => if op = .srl then [0x1F, op.code, a] else [op.code, a]
  | _ => []

/-- The one-operand instructions with their operands (40_arithmetic.md R182, R184, R186; 41_bit_manipulation.md
R213; 45_logical.md R292; 47_rotate_shift.md R340). -/
def oneOperand : Instr → Option (Op1 × Place)
  | .inc_r d => some (.inc, .working d)
  | .inc_R d => some (.inc, .short d)
  | .inc_IR d => some (.inc, .viaShort d)
  | .dec_R d => some (.dec, .short d)
  | .dec_IR d => some (.dec, .viaShort d)
  | .com_R d => some (.com, .short d)
  | .com_IR d => some (.com, .viaShort d)
  | .rl_R d => some (.rl, .short d)
  | .rl_IR d => some (.rl, .viaShort d)
  | .rlc_R d => some (.rlc, .short d)
  | .rlc_IR d => some (.rlc, .viaShort d)
  | .rr_R d => some (.rr, .short d)
  | .rr_IR d => some (.rr, .viaShort d)
  | .rrc_R d => some (.rrc, .short d)
  | .rrc_IR d => some (.rrc, .viaShort d)
  | .sra_R d => some (.sra, .short d)
  | .sra_IR d => some (.sra, .viaShort d)
  | .srl_R d => some (.srl, .short d)
  | .srl_IR d => some (.srl, .viaShort d)
  | .swap_R d => some (.swap, .short d)
  | .swap_IR d => some (.swap, .viaShort d)
  | .da_R d => some (.da, .short d)
  | .da_IR d => some (.da, .viaShort d)
  | .bswap_R d => some (.bswap, .short d)
  | _ => none

/-- CLR, LD and LDX with their operands (44_load.md R260, R261, R269). -/
def loadOperands : Instr → Option (Place × Source)
  | .clr_R dst => some (.short dst, .imm 0x00)
  | .clr_IR dst => some (.viaShort dst, .imm 0x00)
  | .ld_r_IM dst im => some (.working dst, .imm im)
  | .ld_R_IM dst im => some (.short dst, .imm im)
  | .ld_IR_IM dst im => some (.viaShort dst, .imm im)
  | .ld_r_Ir dst src => some (.working dst, .place (.viaWorking src))
  | .ld_Ir_r dst src => some (.viaWorking dst, .place (.working src))
  | .ld_R_R dst src => some (.short dst, .place (.short src))
  | .ld_R_IR dst src => some (.short dst, .place (.viaShort src))
  | .ld_IR_R dst src => some (.viaShort dst, .place (.short src))
  | .ld_r_Xr dst base x => some (.working dst, .place (.indexed base x))
  | .ld_Xr_r base x src => some (.indexed base x, .place (.working src))
  | .ldx_r_ER dst src => some (.working dst, .place (.linear src))
  | .ldx_Ir_ER dst src => some (.viaWorking dst, .place (.linear src))
  | .ldx_R_IRR dst src => some (.short dst, .place (.viaPair src))
  | .ldx_IR_IRR dst src => some (.viaShort dst, .place (.viaPair src))
  | .ldx_r_Xrr dst base x => some (.working dst, .place (.pairIndexed base x))
  | .ldx_Xrr_r base x src => some (.pairIndexed base x, .place (.working src))
  | .ldx_ER_r dst src => some (.linear dst, .place (.working src))
  | .ldx_ER_Ir dst src => some (.linear dst, .place (.viaWorking src))
  | .ldx_IRR_R dst src => some (.viaPair dst, .place (.short src))
  | .ldx_IRR_IR dst src => some (.viaPair dst, .place (.viaShort src))
  | .ldx_ER_ER dst src => some (.extended dst, .place (.extended src))
  | .ldx_ER_IM dst im => some (.extended dst, .imm im)
  | _ => none

/-- LDC and LDE from memory: whether from Program Memory, the destination, the pair with the address
(42_block_transfer.md R232, R234). -/
def memoryLoad : Instr → Option (Bool × Place × Nib)
  | .ldc_r_Irr d rr => some (true, .working d, rr)
  | .ldc_Ir_Irr d rr => some (true, .viaWorking d, rr)
  | .lde_r_Irr d rr => some (false, .working d, rr)
  | _ => none

/-- LDC and LDE to memory: whether to Program Memory, the pair with the address, the source
(42_block_transfer.md R232, R234). -/
def memoryStore : Instr → Option (Bool × Nib × Nib)
  | .ldc_Irr_r rr r => some (true, rr, r)
  | .lde_Irr_r rr r => some (false, rr, r)
  | _ => none

/-- LDCI and LDEI from memory: whether from Program Memory, the pointer register, the pair (42_block_transfer.md
R233, R235). -/
def blockLoad : Instr → Option (Bool × Nib × Nib)
  | .ldci_Ir_Irr r rr => some (true, r, rr)
  | .ldei_Ir_Irr r rr => some (false, r, rr)
  | _ => none

/-- LDCI and LDEI to memory: whether to Program Memory, the pair, the pointer register (42_block_transfer.md R233,
R235). -/
def blockStore : Instr → Option (Bool × Nib × Nib)
  | .ldci_Irr_Ir rr r => some (true, rr, r)
  | .ldei_Irr_Ir rr r => some (false, rr, r)
  | _ => none

/-- INCW and DECW: whether up, the operand (40_arithmetic.md R185, R187). -/
def wordOperand : Instr → Option (Bool × Place)
  | .incw_RR a => some (true, .short a)
  | .incw_IR a => some (true, .viaShort a)
  | .decw_RR a => some (false, .short a)
  | .decw_IR a => some (false, .viaShort a)
  | _ => none

/-- PUSH and PUSHX with their sources (44_load.md R276, R277). -/
def pushSource : Instr → Option Source
  | .push_R a => some (.place (.short a))
  | .push_IR a => some (.place (.viaShort a))
  | .push_IM v => some (.imm v)
  | .pushx_ER a => some (.place (.extended a))
  | _ => none

/-- POP and POPX with their destinations (44_load.md R274, R275). -/
def popPlace : Instr → Option Place
  | .pop_R a => some (.short a)
  | .pop_IR a => some (.viaShort a)
  | .popx_ER a => some (.extended a)
  | _ => none

/-- BIT, BCLR and BSET: polarity, bit number, register (41_bit_manipulation.md R210 to R212). -/
def bitWrite : Instr → Option (Bool × BitNo × Nib)
  | .bit p b r => some (p, b, r)
  | .bclr b r => some (false, b, r)
  | .bset b r => some (true, b, r)
  | _ => none

/-- BTJ, BTJNZ and BTJZ: polarity, bit number, source, displacement (46_program_control.md R313 to R315). -/
def bitJump : Instr → Option (Bool × BitNo × Place × Byte)
  | .btj_r p b r x => some (p, b, .working r, x)
  | .btj_Ir p b r x => some (p, b, .viaWorking r, x)
  | .btjnz_r b r x => some (true, b, .working r, x)
  | .btjnz_Ir b r x => some (true, b, .viaWorking r, x)
  | .btjz_r b r x => some (false, b, .working r, x)
  | .btjz_Ir b r x => some (false, b, .viaWorking r, x)
  | _ => none

/-! ### Shapes of the result statements -/

/-- Every form of group `op` has the bytes of 40_arithmetic.md R170, R171, and writes `r d v s` to its destination and
the flags `u d v s`, where `d` is the destination's and `v` the source's value. -/
def Combines (op : Op2) (r : Byte → Byte → State → Nat) (u : Byte → Byte → State → FlagUpdate) : Prop :=
  ∀ (i : Instr) (f : Form) (s : State) (da : Addr) (v : Byte), twoOperand i = some (op, f) →
    encode i = op.bytes f ∧
    (Undisturbed s → placeAddress 0 f.dst s = .ok da → sourceValue f.src s = .ok v →
      Readable da s → Writable da s →
      exec i s = .next (updateFlags (u (registerValue 2 da s) v s)
        (storeRegister da (BitVec.ofNat 8 (r (registerValue 2 da s) v s)) s)))

/-- Every form of group `op` has the bytes of 40_arithmetic.md R170, R171, and writes the flags `u d v s` only. -/
def Tests (op : Op2) (u : Byte → Byte → State → FlagUpdate) : Prop :=
  ∀ (i : Instr) (f : Form) (s : State) (da : Addr) (v : Byte), twoOperand i = some (op, f) →
    encode i = op.bytes f ∧
    (Undisturbed s → placeAddress 0 f.dst s = .ok da → sourceValue f.src s = .ok v → Readable da s →
      exec i s = .next (updateFlags (u (registerValue 2 da s) v s) s))

/-- Every form of the one-operand instruction `op` has the bytes of its encoding and writes `r d s` to its operand and
the flags `u d s`, where `d` is the operand's value. -/
def Modifies (op : Op1) (r : Byte → State → Nat) (u : Byte → State → FlagUpdate) : Prop :=
  ∀ (i : Instr) (p : Place) (s : State) (da : Addr), oneOperand i = some (op, p) →
    encode i = op.bytes p ∧
    (Undisturbed s → placeAddress 0 p s = .ok da → Readable da s → Writable da s →
      exec i s = .next (updateFlags (u (registerValue 2 da s) s)
        (storeRegister da (BitVec.ofNat 8 (r (registerValue 2 da s) s)) s)))

/-- Table 24 says: with the flags D, C, H and the nibbles `hi`, `lo`, the number `n` is added and the carry after is
`c1` (40_arithmetic.md R183). -/
def DaSays (d c h : Bool) (hi lo n : Nat) (c1 : Bool) : Prop :=
  (d = false ∧ c = false ∧ h = false ∧ hi ≤ 9 ∧ lo ≤ 9 ∧ n = 0x00 ∧ c1 = false) ∨
  (d = false ∧ c = false ∧ h = false ∧ hi ≤ 8 ∧ 10 ≤ lo ∧ n = 0x06 ∧ c1 = false) ∨
  (d = false ∧ c = false ∧ h = true ∧ hi ≤ 9 ∧ lo ≤ 3 ∧ n = 0x06 ∧ c1 = false) ∨
  (d = false ∧ c = false ∧ h = false ∧ 10 ≤ hi ∧ lo ≤ 9 ∧ n = 0x60 ∧ c1 = true) ∨
  (d = false ∧ c = false ∧ h = false ∧ 9 ≤ hi ∧ 10 ≤ lo ∧ n = 0x66 ∧ c1 = true) ∨
  (d = false ∧ c = false ∧ h = true ∧ 10 ≤ hi ∧ lo ≤ 3 ∧ n = 0x66 ∧ c1 = true) ∨
  (d = false ∧ c = true ∧ h = false ∧ hi ≤ 2 ∧ lo ≤ 9 ∧ n = 0x60 ∧ c1 = true) ∨
  (d = false ∧ c = true ∧ h = false ∧ hi ≤ 2 ∧ 10 ≤ lo ∧ n = 0x66 ∧ c1 = true) ∨
  (d = false ∧ c = true ∧ h = true ∧ hi ≤ 3 ∧ lo ≤ 3 ∧ n = 0x66 ∧ c1 = true) ∨
  (d = true ∧ c = false ∧ h = false ∧ hi ≤ 9 ∧ lo ≤ 9 ∧ n = 0x00 ∧ c1 = false) ∨
  (d = true ∧ c = false ∧ h = true ∧ hi ≤ 8 ∧ 6 ≤ lo ∧ n = 0xFA ∧ c1 = false) ∨
  (d = true ∧ c = true ∧ h = false ∧ 7 ≤ hi ∧ lo ≤ 9 ∧ n = 0xA0 ∧ c1 = true) ∨
  (d = true ∧ c = true ∧ h = true ∧ 6 ≤ hi ∧ 6 ≤ lo ∧ n = 0x9A ∧ c1 = true)

/-- What Table 24 says in the state `s` for the destination byte `b`. -/
def DaRowFor (s : State) (b : Byte) (n : Nat) (c1 : Bool) : Prop :=
  DaSays (flag .d s) (flag .c s) (flag .h s) (b.toNat / 16) (b.toNat % 16) n c1

/-! ### Stack and entry -/

/-- The Stack Pointer as a number. -/
def spOf (s : State) : Nat := (stackPointer s).toNat

/-- A byte can be pushed: SP is above 000h and the register below it exists and can be written (10_state.md R42,
R45). -/
def Pushable (s : State) : Prop :=
  spOf s ≠ 0 ∧ available (stackPointer s - 1) s = true ∧ Writable (stackPointer s - 1) s

/-- The state with the byte `v` pushed: `SP <- SP - 1; reg[SP] <- v` (10_state.md R42). -/
def pushed (v : Byte) (s : State) : State :=
  storeRegister (stackPointer s - 1) v (setStackPointer (stackPointer s - 1) s)

/-- A byte can be popped: SP is below FFFh and the register there exists and can be read (10_state.md R43, R45). -/
def Poppable (s : State) : Prop :=
  spOf s ≠ 0xFFF ∧ available (stackPointer s) s = true ∧ Readable (stackPointer s) s

/-- The state with a byte released: `SP <- SP + 1` (10_state.md R43). -/
def popped (s : State) : State := setStackPointer (stackPointer s + 1) s

/-- The state with a 16-bit value pushed: low byte first, so that the most significant byte ends at the lower address
(10_state.md R44). -/
def pushedWord (w : Word) (s : State) : State := pushed (w.extractLsb' 8 8) (pushed (w.extractLsb' 0 8) s)

/-- A 16-bit value can be pushed. -/
def RoomForWord (w : Word) (s : State) : Prop := Pushable s ∧ Pushable (pushed (w.extractLsb' 0 8) s)

/-- The state with the three-byte frame pushed: the return address, then FLAGS (46_program_control.md R325). -/
def withFrame (ret : Word) (s : State) : State := pushed (pushedWord ret s).flags (pushedWord ret s)

/-- The three-byte frame can be pushed. -/
def RoomForFrame (ret : Word) (s : State) : Prop := RoomForWord ret s ∧ Pushable (pushedWord ret s)

/-- The state after an entry through the vector at `vector`. -/
def entered (ret vector : Word) (clears : Bool) (s : State) : State :=
  branchTo (programWord vector s)
    (if clears then setInterruptsEnabled false (withFrame ret s) else withFrame ret s)

/-- The `n` bytes below SP are general-purpose registers that exist. -/
def PlainStack (n : Nat) (s : State) : Prop :=
  n ≤ spOf s ∧ spOf s ≤ 0xF00 ∧ ∀ j, 1 ≤ j → j ≤ n → available (BitVec.ofNat 12 (spOf s - j)) s = true

/-- No outside agent moves in this step. -/
def Quiet (s : State) : Prop := s.inputs = [] ∨ s.inputs.head? = some (.core .quiet [])

/-- The offered vector `v` is one the controller has, IRQCTL[7] masks it, and the product lets a masked request end the
mode the core is in (92_eei_decisions.md D14, D15). -/
def Wakes (v : Word) (s : State) : Prop :=
  (v ∈ s.product.irqVectors ∧ v.toNat % 2 = 0 ∧ 8 ≤ v.toNat) ∧ s.irqctl.getLsbD 7 = false ∧ s.atm = 0 ∧
  ((s.mode = .halt ∧ .maskedRequest ∈ s.product.haltWake) ∨ (s.mode = .stop ∧ .maskedRequest ∈ s.product.stopWake))

/-- The Watchdog Timer's time-out counts: the timer is enabled, and was enabled or refreshed long enough ago
(43_cpu_control.md R248). -/
def TimedOut (s : State) : Prop := s.wdtOn = true ∧ s.wdtStart + s.product.watchdog.earliest ≤ s.tick

/-- The start of the core's step under way: the input is used up. -/
def begun (rest : List Input) (s : State) : State := { s with inputs := rest, midway := [] }

/-- The condition with code `n` of Table 2 holds for the flag values (10_state.md R37). -/
def holdsCode (n : Nat) (c z s v : Bool) : Prop :=
  match n with
  | 0 => False
  | 1 => (s ^^ v) = true
  | 2 => (z || (s ^^ v)) = true
  | 3 => (c || z) = true
  | 4 => v = true
  | 5 => s = true
  | 6 => z = true
  | 7 => c = true
  | 8 => True
  | 9 => (s ^^ v) = false
  | 10 => (z || (s ^^ v)) = false
  | 11 => c = false ∧ z = false
  | 12 => v = false
  | 13 => s = false
  | 14 => z = false
  | _ => c = false

/-- The lengths of 30_encoding.md R114 by upper and lower opcode nibble; 0 for an illegal opcode and for the prefix. -/
def lengthRows : List (List Nat) :=
  [ [1, 2, 2, 2, 3, 3, 3, 3, 4, 4, 2, 2, 2, 3, 1, 1],
    [2, 2, 2, 2, 3, 3, 3, 3, 4, 4, 2, 2, 2, 3, 1, 0],
    [2, 2, 2, 2, 3, 3, 3, 3, 4, 4, 2, 2, 2, 3, 1, 1],
    [2, 2, 2, 2, 3, 3, 3, 3, 4, 4, 2, 2, 2, 3, 1, 0],
    [2, 2, 2, 2, 3, 3, 3, 3, 4, 4, 2, 2, 2, 3, 1, 0],
    [2, 2, 2, 2, 3, 3, 3, 3, 4, 4, 2, 2, 2, 3, 1, 1],
    [2, 2, 2, 2, 3, 3, 3, 3, 4, 4, 2, 2, 2, 3, 1, 1],
    [2, 2, 2, 2, 3, 3, 3, 3, 4, 4, 2, 2, 2, 3, 1, 1],
    [2, 2, 2, 2, 3, 3, 3, 3, 3, 3, 2, 2, 2, 3, 1, 1],
    [2, 2, 2, 2, 3, 3, 3, 3, 3, 3, 2, 2, 2, 3, 1, 1],
    [2, 2, 2, 2, 3, 3, 3, 3, 4, 4, 2, 2, 2, 3, 1, 1],
    [2, 2, 2, 2, 3, 3, 3, 3, 4, 4, 2, 2, 2, 3, 1, 1],
    [2, 2, 2, 2, 2, 2, 0, 3, 3, 0, 2, 2, 2, 3, 1, 1],
    [2, 2, 2, 2, 2, 2, 3, 3, 3, 0, 2, 2, 2, 3, 1, 1],
    [2, 2, 2, 2, 3, 3, 3, 3, 4, 4, 2, 2, 2, 3, 1, 1],
    [2, 2, 2, 2, 2, 3, 3, 3, 0, 0, 2, 2, 2, 3, 1, 0] ]

/-- The total lengths on the second map (30_encoding.md R114); 0 for an undefined byte. -/
def secondLength (op : Byte) : Nat :=
  if op ∈ [0x70, 0xA2, 0xA3, 0xC0, 0xC1] then 3
  else if op ∈ [0xA4, 0xA5, 0xA6, 0xA7] then 4
  else if op ∈ [0xA8, 0xA9, 0xE8] then 5
  else 0

/-- The length of the instruction that starts with these two bytes (30_encoding.md R114). -/
def lengthOf (op op2 : Byte) : Nat :=
  if op = 0x1F then secondLength op2 else (lengthRows.getD (op.toNat / 16) []).getD (op.toNat % 16) 0

/-- The undefined opcodes of the first map (30_encoding.md R147). -/
def illegalFirstMap : List Byte := [0x3F, 0x4F, 0xC6, 0xC9, 0xD9, 0xF8, 0xF9, 0xFF]

/-- The defined bytes after 1Fh (30_encoding.md R147). -/
def legalSecondMap : List Byte := [0x70, 0xA2, 0xA3, 0xA4, 0xA5, 0xA6, 0xA7, 0xA8, 0xA9, 0xC0, 0xC1, 0xE8]

/-- The byte decodes to no instruction. -/
def Undefined (d : Decoded) : Prop :=
  match d with
  | .ok _ _ => False
  | .reserved _ _ => False
  | .illegalFirst _ => True
  | .illegalSecond _ => True
  | .truncated => False

end Sys2Proof.Claims

open Sys2Proof Sys2Proof.Machine Sys2Proof.Claims

/-! ### Encoding -/

/-- Every instruction's bytes, whatever follows them, decode to it (an alias to the instruction it spells) with their
number. 30_encoding.md section 2.
Model's choices: notes/assumptions/35. -/
def Obligations.DecodeOfEncode : Prop :=
  ∀ (i : Instr) (rest : List Byte), decode (encode i ++ rest) = .ok (canonical i) (encode i).length

/-- Object code of the manual, one instruction of each family. -/
def Obligations.WordsOfTheManual : Prop :=
  decode [0x04, 0x08, 0x43] = .ok (.add_R_R 0x43 0x08) 3 ∧
  decode [0x18, 0xB1, 0x26, 0x34] = .ok (.adcx_ER_ER 0x634 0xB12) 4 ∧
  decode [0x1F, 0xA8, 0x91, 0x1A, 0xB3] = .ok (.cpcx_ER_ER 0xAB3 0x911) 5 ∧
  decode [0xE2, 0xA7] = .ok (.bit true 2 7) 2 ∧
  decode [0xD2, 0x26] = .ok (.ldc_Irr_r 6 2) 2 ∧
  decode [0x01, 0xF0] = .ok (.srp 0xF0) 2 ∧
  decode [0xD7, 0xA0, 0xF0] = .ok (.ld_Xr_r 0 0xF0 10) 3 ∧
  decode [0x94, 0x67, 0x00] = .ok (.ldx_ER_r 0x700 6) 3 ∧
  decode [0xC8, 0xFC, 0xA0] = .ok (.pushx_ER 0xFCA) 3 ∧
  decode [0x60, 0x08] = .ok (.com_R 0x08) 2 ∧
  decode [0x7D, 0x15, 0x20] = .ok (.jp_cc .c 0x1520) 3 ∧
  decode [0xF6, 0x57, 0x01] = .ok (.btj_r false 5 7 0x01) 3 ∧
  decode [0x1F, 0xC0, 0xE6] = .ok (.srl_R 0xE6) 3

/-- Exactly the opcodes of R147 are undefined; an undefined one performs the Illegal Instruction Trap with the address of
its first byte; and that trap is the entry with that address through the vector at 0006h, the atomic block closed.
30_encoding.md R147, 60_exceptions.md section 4.
Model's choices: notes/assumptions/18, 27, 28. -/
def Obligations.UndefinedOpcodesTrap : Prop :=
  (∀ op b1 b2 b3 b4 : Byte,
    Undefined (decode [op, b1, b2, b3, b4]) ↔ op ∈ illegalFirstMap ∨ (op = 0x1F ∧ b1 ∉ legalSecondMap)) ∧
  (∀ s : State, Undefined (decode (fetchBytes s)) → executeHere s = closeEntry (illegalInstruction s.pc s)) ∧
  (∀ (a : Word) (s : State), Undisturbed s → RoomForFrame a s →
    illegalInstruction a s = .ok { entered a 0x0006 s.product.trapClearsIrqe s with atm := 0 })

/-- The length of every instruction is the table's, and exactly the entries without one are no instruction.
30_encoding.md R114. -/
def Obligations.LengthTable : Prop :=
  ∀ op b1 b2 b3 b4 : Byte, (decode [op, b1, b2, b3, b4]).length? =
    if lengthOf op b1 = 0 then none else some (lengthOf op b1)

/-- A non-zero fixed nibble is read as such in exactly the `IM_ER1` and `ER_0` formats; the instruction is the one with
the nibble 0, and it runs or traps as `RESERVED_OPERAND_BITS` says. 30_encoding.md section 2.
Model's choices: notes/assumptions/12. -/
def Obligations.FixedNibbles : Prop :=
  (∀ (op : Op2) (d : Addr) (v : Byte) (n : Nib), n ≠ 0 →
    ∃ i : Instr, twoOperand i = some (op, .ER_IM d v) ∧
      decode ((if op = .cpc then [0x1F] else []) ++
        [op.group ++ 0x9#4, v, n ++ d.extractLsb' 8 4, d.extractLsb' 0 8]) =
          .reserved i (if op = .cpc then 5 else 4)) ∧
  (∀ (d : Addr) (v : Byte) (n : Nib), n ≠ 0 →
    decode [0xE9, v, n ++ d.extractLsb' 8 4, d.extractLsb' 0 8] = .reserved (.ldx_ER_IM d v) 4) ∧
  (∀ (a : Addr) (n : Nib), n ≠ 0 →
    decode [0xC8, a.extractLsb' 4 8, a.extractLsb' 0 4 ++ n] = .reserved (.pushx_ER a) 3 ∧
    decode [0xD8, a.extractLsb' 4 8, a.extractLsb' 0 4 ++ n] = .reserved (.popx_ER a) 3) ∧
  (∀ (bs : List Byte) (i : Instr) (n : Nat), decode bs = .reserved i n →
    (∃ op d v, twoOperand i = some (op, .ER_IM d v)) ∨ (∃ d v, i = .ldx_ER_IM d v) ∨
      ∃ a, i = .pushx_ER a ∨ i = .popx_ER a) ∧
  (∀ (s : State) (i : Instr) (n : Nat), decode (fetchBytes s) = .reserved i n →
    executeHere s =
      match s.product.reservedBits with
      | .ignore => runInstruction i n s
      | .illegal => closeEntry (illegalInstruction s.pc s))

/-- The eight alias spellings do what the instructions they spell do. 30_encoding.md section 5, section 4.
Model's choices: notes/assumptions/35. -/
def Obligations.AliasesAgree : Prop :=
  ∀ (i : Instr) (s : State), exec i s = exec (canonical i) s ∧ encode i = encode (canonical i)

/-! ### Addressing -/

/-- `wr`, `pg`, `ea8`, `ea12` as numbers, and which registers escaped mode hides. 30_encoding.md R120 to R123. -/
def Obligations.AddressFunctions : Prop :=
  (∀ (n : Nib) (s : State),
    (workingAddress n s).toNat = s.rp.toNat % 16 * 256 + s.rp.toNat / 16 * 16 + n.toNat) ∧
  (∀ (a : Byte) (s : State), (pageAddress a s).toNat = s.rp.toNat % 16 * 256 + a.toNat) ∧
  (∀ (a : Byte) (s : State),
    escaped8 a s = if a.toNat / 16 = 14 then workingAddress (BitVec.ofNat 4 a.toNat) s else pageAddress a s) ∧
  (∀ (a : Byte) (s : State), (escaped8 a s).toNat % 256 / 16 = 14 → s.rp.toNat / 16 = 14) ∧
  (∀ (a : Addr) (s : State),
    escaped12 a s =
      if a.toNat / 16 = 0xEE then workingAddress (BitVec.ofNat 4 a.toNat) s
      else if a.toNat / 256 = 14 then pageAddress (BitVec.ofNat 8 a.toNat) s
      else a) ∧
  (∀ (a : Addr) (s : State), (escaped12 a s).toNat / 256 = 14 → s.rp.toNat % 16 = 14)

/-- Where each operand kind is, its pointers being readable, and the target of a relative branch. That index sums and
the Program Counter wrap is a decision of the specification (notes/assumptions/24.md, 26.md). 30_encoding.md section 3,
46_program_control.md section 1.
Model's choices: notes/assumptions/24, 26. -/
def Obligations.OperandPlaces : Prop :=
  ∀ (s : State) (k : Nat), Undisturbed s →
    (∀ n : Nib, placeAddress k (.working n) s = .ok (workingAddress n s)) ∧
    (∀ a : Byte, placeAddress k (.short a) s = .ok (escaped8 a s)) ∧
    (∀ a : Addr, placeAddress k (.extended a) s = .ok (escaped12 a s)) ∧
    (∀ a : Addr, placeAddress k (.linear a) s = .ok a) ∧
    (∀ n : Nib, Readable (workingAddress n s) s →
      placeAddress k (.viaWorking n) s = .ok (pageAddress (registerValue k (workingAddress n s) s) s)) ∧
    (∀ a : Byte, Readable (escaped8 a s) s →
      placeAddress k (.viaShort a) s = .ok (pageAddress (registerValue k (escaped8 a s) s) s)) ∧
    (∀ (n : Nib) (x : Byte), Readable (workingAddress n s) s →
      placeAddress k (.indexed n x) s =
        .ok (pageAddress (BitVec.ofNat 8 ((registerValue k (workingAddress n s) s).toNat + x.toNat)) s)) ∧
    (∀ (a : Byte) (w : Word), readPair k (escaped8 a s) s = .ok w →
      placeAddress k (.viaPair a) s = .ok (BitVec.ofNat 12 w.toNat)) ∧
    (∀ (n : Nib) (x : Byte) (w : Word), readPair k (workingAddress n s) s = .ok w →
      placeAddress k (.pairIndexed n x) s = .ok (BitVec.ofInt 12 ((w.toNat : Int) + x.toInt))) ∧
    (∀ x : Byte,
      ((relativeTarget x s).toNat : Int) = ((s.pc.toNat : Int) + x.toInt) % 65536 ∧ -128 ≤ x.toInt ∧ x.toInt ≤ 127)

/-! ### Register File, memories, flags -/

/-- Where a register read goes. 20_memory.md R78.
Model's choices: notes/assumptions/3, 7, 8. -/
def Obligations.RegisterReads : Prop :=
  ∀ (k : Nat) (s : State),
    registerValue k 0xFFC s = s.flags ∧ registerValue k 0xFFD s = s.rp ∧ registerValue k 0xFFE s = s.sph ∧
    registerValue k 0xFFF s = s.spl ∧ registerValue k 0xFCF s = s.irqctl ∧
    (∀ a : Addr, a.toNat < 0xFFC → a ≠ 0xFCF → covers s.product.rfAvailable a.toNat = true →
      registerValue k a s = readCell rfBlank s.rf a.toNat) ∧
    (∀ a : Addr, a.toNat < 0xFFC → a ≠ 0xFCF → covers s.product.rfAvailable a.toNat = false →
      registerValue k a s = Config.freeByte s.tick (.operand k))

/-- Where a register write goes, and that nothing else changes. A peripheral register answers freely, and IRQCTL[6:0] are
plain storage (notes/assumptions/7.md, 33.md). 20_memory.md section 4.
Model's choices: notes/assumptions/7, 33. -/
def Obligations.RegisterWrites : Prop :=
  ∀ (a : Addr) (v : Byte) (s : State), s.Inv →
    SameOutside s (storeRegister a v s) ∧
    SameRegistersBut (· = a) s (storeRegister a v s) ∧
    (∀ k, 0xFFC ≤ a.toNat ∨ a = 0xFCF ∨ Plain a s → registerValue k a (storeRegister a v s) = v) ∧
    (available a s = false → storeRegister a v s = s) ∧
    (0xF00 ≤ a.toNat → a.toNat < 0xFFC → a ≠ 0xFCF → available a s = true →
      ∀ k, registerValue k a (storeRegister a v s) =
        Config.platformByte s.tick a (readCell rfBlank s.rf a.toNat) v)

/-- A read of a Write-Only and a write of a Read-Only register stop, in the access and in the instructions that make it;
every other access is made; FLAGS, RP, SPH, SPL and the registers below F00h are never restricted. 20_memory.md R80.
Model's choices: notes/assumptions/10. -/
def Obligations.AccessRights : Prop :=
  (∀ (k : Nat) (a : Addr) (v : Byte) (s : State), Undisturbed s →
      (Readable a s → readRegister k a s = .ok (registerValue k a s)) ∧
      (Writable a s → writeRegister a v s = .ok (storeRegister a v s)) ∧
      (accessRight a s = .writeOnly → readRegister k a s = refuse (.readOfWriteOnly a)) ∧
      (accessRight a s = .readOnly → writeRegister a v s = refuse (.writeOfReadOnly a)) ∧
      (0xFFC ≤ a.toNat ∨ a.toNat < 0xF00 → accessRight a s = .readWrite)) ∧
  (∀ (i : Instr) (f : Form) (op : Op2) (s : State) (da : Addr) (v : Byte), twoOperand i = some (op, f) →
    Undisturbed s → placeAddress 0 f.dst s = .ok da → sourceValue f.src s = .ok v → accessRight da s = .writeOnly →
      exec i s = .refused (.readOfWriteOnly da)) ∧
  (∀ (i : Instr) (dst : Place) (src : Source) (s : State) (da : Addr) (v : Byte),
    loadOperands i = some (dst, src) → Undisturbed s → placeAddress 0 dst s = .ok da → sourceValue src s = .ok v →
      accessRight da s = .readOnly → exec i s = .refused (.writeOfReadOnly da))

/-- A register pair at an even address: most significant byte there, least significant in the next register; a pair of
general-purpose registers reads back what was written. At an odd address: what each value of `ODD_PAIR` says. A DMA read
between the two byte writes finds one byte written and the other not; which is written first is open there
(notes/assumptions/23.md). 20_memory.md section 3, section 8.
Model's choices: notes/assumptions/11, 19, 23. -/
def Obligations.RegisterPairs : Prop :=
  (∀ (k : Nat) (a : Addr) (s : State), Undisturbed s → a.getLsbD 0 = false → Readable a s → Readable (a + 1) s →
    ∃ w, readPair k a s = .ok w ∧
      w.toNat = (registerValue k a s).toNat * 256 + (registerValue (k + 1) (a + 1) s).toNat) ∧
  (∀ (k : Nat) (a : Addr) (w : Word) (s : State), s.Inv → a.getLsbD 0 = false → Plain a s → Plain (a + 1) s →
    ∃ t, writePair a w s = .ok t ∧ readPair k a t = .ok w ∧ SameOutside s t ∧
      SameRegistersBut (fun b => b = a ∨ b = a + 1) s t) ∧
  (∀ (k : Nat) (a : Addr) (s : State), a.getLsbD 0 = true →
    (s.product.oddPair = .forceEven → readPair k a s = readPair k (a - 1) s) ∧
    (s.product.oddPair = .asIs → Undisturbed s → Readable a s → Readable (a + 1) s →
      readPair k a s = .ok (registerValue k a s ++ registerValue (k + 1) (a + 1) s))) ∧
  (∀ (p : OddPair) (a : Addr),
    (pairAddress p a).toNat = if p = .forceEven ∧ a.toNat % 2 = 1 then a.toNat - 1 else a.toNat) ∧
  (∀ (a : Addr) (w : Word) (l : Location) (s : State), s.product.dmaAgent = true → s.atm = 0 → a.getLsbD 0 = false →
    Writable a s → Writable (a + 1) s → s.midway = [[], [.dmaRead l]] →
      ∃ t, writePair a w s = .ok t ∧
        (t.outputs = .dmaByte l (byteAt l (storeRegister a (w.extractLsb' 8 8) s)) :: s.outputs ∨
          t.outputs = .dmaByte l (byteAt l (storeRegister (a + 1) (w.extractLsb' 0 8) s)) :: s.outputs))

/-- A flag update changes the named flags and nothing else; F1 and F2 are never among them. 10_state.md section 4.1. -/
def Obligations.FlagUpdates : Prop :=
  ∀ (u : FlagUpdate) (s : State),
    (∀ f : Flag, flag f (updateFlags u s) = (updateOf u f).getD (flag f s)) ∧
    updateOf u .f1 = none ∧ updateOf u .f2 = none ∧
    SameOutside s (updateFlags u s) ∧ SameRegistersBut (· = 0xFFC) s (updateFlags u s)

/-- Program Memory: an unavailable byte reads FFh and a write there does nothing; an available one takes a write where
it is writable. 20_memory.md R82, R83.
Model's choices: notes/assumptions/4, 13. -/
def Obligations.ProgramMemoryAccess : Prop :=
  ∀ (a : Word) (v : Byte) (s : State), s.Inv →
    (covers s.product.pmAvailable a.toNat = false → programByte a s = 0xFF ∧ writeProgram a v s = s) ∧
    (covers s.product.pmWritable a.toNat = false → writeProgram a v s = s) ∧
    (covers s.product.pmAvailable a.toNat = true → covers s.product.pmWritable a.toNat = true →
      programByte a (writeProgram a v s) = v) ∧
    (∀ b, b ≠ a → programByte b (writeProgram a v s) = programByte b s) ∧
    (∀ b, dataByte b (writeProgram a v s) = dataByte b s) ∧
    SameRegistersBut (fun _ => False) s (writeProgram a v s) ∧ (writeProgram a v s).pc = s.pc

/-- Data Memory: an unavailable byte reads FFh and a write there does nothing; an available one takes the write.
20_memory.md R85. -/
def Obligations.DataMemoryAccess : Prop :=
  ∀ (a : Word) (v : Byte) (s : State), s.Inv →
    (covers s.product.dmAvailable a.toNat = false → dataByte a s = 0xFF ∧ writeData a v s = s) ∧
    (covers s.product.dmAvailable a.toNat = true → dataByte a (writeData a v s) = v) ∧
    (∀ b, b ≠ a → dataByte b (writeData a v s) = dataByte b s) ∧
    (∀ b, programByte b (writeData a v s) = programByte b s) ∧
    SameRegistersBut (fun _ => False) s (writeData a v s) ∧ (writeData a v s).pc = s.pc

/-- Only the store forms of LDC and LDCI change Program Memory, and only those of LDE and LDEI Data Memory.
20_memory.md section 7. -/
def Obligations.MemoryWriters : Prop :=
  ∀ (i : Instr) (s t : State), Undisturbed s → exec i s = .next t →
    ((∀ rr r, i ≠ .ldc_Irr_r rr r ∧ i ≠ .ldci_Irr_Ir rr r) → t.pm = s.pm) ∧
    ((∀ rr r, i ≠ .lde_Irr_r rr r ∧ i ≠ .ldei_Irr_Ir rr r) → t.dm = s.dm)

/-! ### Two-operand instructions -/

/-- ADD and ADDX, ADC and ADCX, in all eight forms each. 40_arithmetic.md R172, R174 to R177. -/
def Obligations.AddResults : Prop :=
  Combines .add (fun d v _ => d.toNat + v.toNat) (fun d v _ => addFlags d v 0) ∧
  Combines .adc (fun d v s => d.toNat + v.toNat + carryOf s) (fun d v s => addFlags d v (carryOf s))

/-- SUB and SUBX, SBC and SBCX, in all eight forms each. 40_arithmetic.md R189 to R192. -/
def Obligations.SubtractResults : Prop :=
  Combines .sub (fun d v _ => difference d v 0) (fun d v _ => subFlags d v 0) ∧
  Combines .sbc (fun d v s => difference d v (carryOf s)) (fun d v s => subFlags d v (carryOf s))

/-- CP and CPX, CPC and CPCX, in all eight forms each: flags only, Z sticky for CPC. 40_arithmetic.md R178 to R181. -/
def Obligations.CompareResults : Prop :=
  Tests .cp (fun d v _ => compareFlags d v 0) ∧
  Tests .cpc (fun d v s => stickyFlags (flag .z s) d v (carryOf s))

/-- AND, OR, XOR and their extended forms: each bit of the result, and the flags. 45_logical.md R290, R291, R293 to
R297. -/
def Obligations.LogicResult : Prop :=
  Combines .and (fun d v _ => (d &&& v).toNat) (fun d v _ => logicFlags (d &&& v)) ∧
  Combines .or (fun d v _ => (d ||| v).toNat) (fun d v _ => logicFlags (d ||| v)) ∧
  Combines .xor (fun d v _ => (d ^^^ v).toNat) (fun d v _ => logicFlags (d ^^^ v))

/-- TCM, TM and their extended forms: flags only. 41_bit_manipulation.md R217 to R220. -/
def Obligations.MaskTestResult : Prop :=
  Tests .tcm (fun d v _ => logicFlags (~~~d &&& v)) ∧ Tests .tm (fun d v _ => logicFlags (d &&& v))

/-- What the two-operand instructions leave alone: every register but the destination and FLAGS, no destination at all
for CP, CPC, TM, TCM; every flag the group does not write; both memories, the Program Counter and the rest.
40_arithmetic.md section 1, 45_logical.md, 41_bit_manipulation.md section 4. -/
def Obligations.TwoOperandFrame : Prop :=
  ∀ (i : Instr) (op : Op2) (f : Form) (s t : State) (da : Addr), twoOperand i = some (op, f) →
    Undisturbed s → placeAddress 0 f.dst s = .ok da → exec i s = .next t →
      SameOutside s t ∧
      SameRegistersBut (fun a => a = 0xFFC ∨ (a = da ∧ op ∉ [Op2.cp, .cpc, .tm, .tcm])) s t ∧
      (da ≠ 0xFFC ∨ op ∈ [Op2.cp, .cpc, .tm, .tcm] →
        flag .f1 t = flag .f1 s ∧ flag .f2 t = flag .f2 s ∧
        (op ∉ [Op2.add, .adc, .sub, .sbc] →
          flag .d t = flag .d s ∧ flag .h t = flag .h s) ∧
        (op ∈ [Op2.and, .or, .xor, .tm, .tcm] → flag .c t = flag .c s))

/-- V is "the signed result does not fit", C is "the unsigned result does not fit", for addition and subtraction with
any carry. 10_state.md section 4.1. -/
def Obligations.SignedOverflow : Prop :=
  ∀ (c : Bool) (d s : Byte),
    (addWith c d s).flags.v =
      some (decide (d.toInt + s.toInt + c.toNat < -128 ∨ 127 < d.toInt + s.toInt + c.toNat)) ∧
    (subWith c d s).flags.v =
      some (decide (d.toInt - s.toInt - c.toNat < -128 ∨ 127 < d.toInt - s.toInt - c.toNat)) ∧
    (addWith c d s).value.toNat + (if (addWith c d s).flags.c = some true then 256 else 0) =
      d.toNat + s.toNat + c.toNat ∧
    (subWith c d s).value.toNat + s.toNat + c.toNat =
      d.toNat + (if (subWith c d s).flags.c = some true then 256 else 0)

/-! ### One-operand instructions -/

/-- INC in its three forms, DEC and COM in both. 40_arithmetic.md section 2, 45_logical.md. -/
def Obligations.IncrementDecrementComplement : Prop :=
  Modifies .inc (fun d _ => d.toNat + 1) (fun d _ => countFlags (d + 1) (decide (d.toNat = 127))) ∧
  Modifies .dec (fun d _ => d.toNat + 255) (fun d _ => countFlags (d - 1) (decide (d.toNat = 128))) ∧
  Modifies .com (fun d _ => 255 - d.toNat) (fun d _ => countFlags (~~~d) false)

/-- RL, RLC, RR, RRC, SRA, SRL, SWAP, BSWAP: result and flags; V after SRL is what the parameter `SRL_V` says
(notes/assumptions/17.md), C and V of SWAP and C of BSWAP are some bit (notes/assumptions/8.md). 47_rotate_shift.md,
41_bit_manipulation.md section 2.
Model's choices: notes/assumptions/8, 17. -/
def Obligations.RotateShiftTable : Prop :=
  Modifies .rl (fun d _ => 2 * d.toNat % 256 + d.toNat / 128)
    (fun d _ => shiftFlags (decide (128 ≤ d.toNat)) (2 * d.toNat % 256 + d.toNat / 128)
      (decide (128 ≤ d.toNat) != decide (64 ≤ d.toNat % 128))) ∧
  Modifies .rlc (fun d s => 2 * d.toNat % 256 + carryOf s)
    (fun d s => shiftFlags (decide (128 ≤ d.toNat)) (2 * d.toNat % 256 + carryOf s)
      (decide (128 ≤ d.toNat) != decide (64 ≤ d.toNat % 128))) ∧
  Modifies .rr (fun d _ => d.toNat / 2 + d.toNat % 2 * 128)
    (fun d _ => shiftFlags (decide (d.toNat % 2 = 1)) (d.toNat / 2 + d.toNat % 2 * 128)
      (decide (128 ≤ d.toNat) != decide (d.toNat % 2 = 1))) ∧
  Modifies .rrc (fun d s => d.toNat / 2 + carryOf s * 128)
    (fun d s => shiftFlags (decide (d.toNat % 2 = 1)) (d.toNat / 2 + carryOf s * 128)
      (decide (128 ≤ d.toNat) != decide (carryOf s = 1))) ∧
  Modifies .sra (fun d _ => d.toNat / 2 + d.toNat / 128 * 128)
    (fun d _ => shiftFlags (decide (d.toNat % 2 = 1)) (d.toNat / 2 + d.toNat / 128 * 128) false) ∧
  Modifies .srl (fun d _ => d.toNat / 2)
    (fun d s => shiftFlags (decide (d.toNat % 2 = 1)) (d.toNat / 2)
      (decide (128 ≤ d.toNat ∧ s.product.srlV = .signChanged))) ∧
  (∀ (i : Instr) (p : Place) (s : State) (da : Addr), oneOperand i = some (.swap, p) →
    encode i = Op1.swap.bytes p ∧ (Undisturbed s → placeAddress 0 p s = .ok da → Readable da s → Writable da s →
      ∃ c v : Bool,
        let r := (registerValue 2 da s).toNat % 16 * 16 + (registerValue 2 da s).toNat / 16
        exec i s = .next (updateFlags (shiftFlags c r v) (storeRegister da (BitVec.ofNat 8 r) s)))) ∧
  (∀ (i : Instr) (p : Place) (s : State) (da : Addr), oneOperand i = some (.bswap, p) →
    encode i = Op1.bswap.bytes p ∧ (Undisturbed s → placeAddress 0 p s = .ok da → Readable da s → Writable da s →
      ∃ (c : Bool) (r : Byte), (∀ j, j < 8 → r.getLsbD j = (registerValue 2 da s).getLsbD (7 - j)) ∧
        exec i s = .next (updateFlags (shiftFlags c r.toNat false) (storeRegister da r s))))

/-- Table 24: no two rows meet, the closed form agrees with every row, and DA in both forms adds the matching row's number
and takes its carry, the manual's other passages on the carry being overruled (notes/assumptions/34.md), V being some bit
(notes/assumptions/8.md). 40_arithmetic.md section 2.
Model's choices: notes/assumptions/8, 34. -/
def Obligations.DecimalAdjustTable : Prop :=
  (∀ (d c h : Bool) (hi lo n1 n2 : Nat) (c1 c2 : Bool), DaSays d c h hi lo n1 c1 → DaSays d c h hi lo n2 c2 →
    n1 = n2 ∧ c1 = c2) ∧
  (∀ (d c h : Bool) (hi lo n : Nat) (c1 : Bool), DaSays d c h hi lo n c1 →
    n = (if d then (if h then 0xFA else 0) + (if c then 0xA0 else 0)
      else (if h = true ∨ 9 < lo then 0x06 else 0) +
        (if c = true ∨ 9 < hi ∨ (hi = 9 ∧ 9 < lo) then 0x60 else 0)) % 256 ∧
    c1 = (if d then c else decide (c = true ∨ 9 < hi ∨ (hi = 9 ∧ 9 < lo)))) ∧
  (∀ (i : Instr) (p : Place) (s : State) (da : Addr) (n : Nat) (c1 : Bool), oneOperand i = some (.da, p) →
    Undisturbed s → placeAddress 0 p s = .ok da → Readable da s → Writable da s →
    DaRowFor s (registerValue 2 da s) n c1 →
      ∃ v : Bool,
        let r := ((registerValue 2 da s).toNat + n) % 256
        exec i s = .next (updateFlags (shiftFlags c1 r v) (storeRegister da (BitVec.ofNat 8 r) s)))

/-- DA where no row of Table 24 matches completes: the destination and C, Z, S, V take some value, D, H, F1, F2 keep
theirs. 40_arithmetic.md section 2.
Model's choices: notes/assumptions/8. -/
def Obligations.DecimalAdjustOpen : Prop :=
  ∀ (i : Instr) (p : Place) (s : State) (da : Addr), oneOperand i = some (.da, p) →
    Undisturbed s → placeAddress 0 p s = .ok da → Readable da s → Writable da s →
    (∀ n c1, ¬ DaRowFor s (registerValue 2 da s) n c1) →
      ∃ (r : Byte) (c z n v : Bool),
        exec i s = .next (updateFlags { c := some c, z := some z, s := some n, v := some v }
          (storeRegister da r s))

/-- What the one-operand instructions leave alone: every register but the operand and FLAGS, the flags D, H, F1 and F2,
and C for INC, DEC and COM; both memories, the Program Counter and the rest. 47_rotate_shift.md section 3,
40_arithmetic.md section 2. -/
def Obligations.OneOperandFrame : Prop :=
  ∀ (i : Instr) (op : Op1) (p : Place) (s t : State) (da : Addr), oneOperand i = some (op, p) →
    Undisturbed s → placeAddress 0 p s = .ok da → exec i s = .next t →
      SameOutside s t ∧ SameRegistersBut (fun a => a = 0xFFC ∨ a = da) s t ∧
      (da ≠ 0xFFC →
        flag .f1 t = flag .f1 s ∧ flag .f2 t = flag .f2 s ∧
        flag .d t = flag .d s ∧ flag .h t = flag .h s ∧
        (op ∈ [Op1.inc, .dec, .com] → flag .c t = flag .c s))

/-- INCW and DECW in both forms: the pair goes up or down by one modulo 65536, most significant byte at the lower address,
and Z, S, V are those of the 16-bit result. 40_arithmetic.md R185, R187. -/
def Obligations.WordCounts : Prop :=
  ∀ (i : Instr) (up : Bool) (p : Place) (s : State) (da : Addr) (w : Word), wordOperand i = some (up, p) →
    Undisturbed s → placeAddress 0 p s = .ok da → readPair 2 da s = .ok w →
    Writable (pairAddress s.product.oddPair da) s → Writable (pairAddress s.product.oddPair da + 1) s →
      let r := if up then (w.toNat + 1) % 65536 else (w.toNat + 65535) % 65536
      (∀ a, p = .short a → encode i = [if up then 0xA0 else 0x80, a]) ∧
      (∀ a, p = .viaShort a → encode i = [if up then 0xA1 else 0x81, a]) ∧
      exec i s = .next (updateFlags
        { z := some (decide (r = 0)), s := some (decide (32768 ≤ r))
          v := some (decide (w.toNat = if up then 32767 else 32768)) }
        (storeRegister (pairAddress s.product.oddPair da + 1) (BitVec.ofNat 8 r)
          (storeRegister (pairAddress s.product.oddPair da) (BitVec.ofNat 8 (r / 256)) s)))

/-- MULT: the unsigned 16-bit product of the pair's two bytes replaces them; no flag is written.
40_arithmetic.md R188. -/
def Obligations.MultiplyResult : Prop :=
  ∀ (b : Byte) (s : State),
    let a := pairAddress s.product.oddPair (escaped8 b s)
    Undisturbed s → Readable a s → Readable (a + 1) s → Writable a s → Writable (a + 1) s →
      let m := (registerValue 2 a s).toNat * (registerValue 3 (a + 1) s).toNat
      encode (.mult_RR b) = [0xF4, b] ∧ exec (.mult_RR b) s =
        .next (storeRegister (a + 1) (BitVec.ofNat 8 m) (storeRegister a (BitVec.ofNat 8 (m / 256)) s))

/-! ### Bits and carry -/

/-- BIT, BCLR, BSET: the one bit takes the polarity, the other seven stay; no flag unless `BITOPS_WRITE_FLAGS`, and then
Z, S of the result and V reset; nothing else changes. 41_bit_manipulation.md R210 to R212. -/
def Obligations.BitWrites : Prop :=
  ∀ (i : Instr) (p : Bool) (b : BitNo) (n : Nib) (s : State), bitWrite i = some (p, b, n) →
    Undisturbed s → Readable (workingAddress n s) s → Writable (workingAddress n s) s →
      ∃ r : Byte,
        (∀ j, j < 8 → r.getLsbD j =
          if j = b.toNat then p else (registerValue 2 (workingAddress n s) s).getLsbD j) ∧
        encode i = [0xE2, BitVec.ofNat 8 (p.toNat * 128 + b.toNat * 16 + n.toNat)] ∧
        exec i s = .next
          (if s.product.bitopsWriteFlags = true
            then updateFlags (logicFlags r) (storeRegister (workingAddress n s) r s)
            else storeRegister (workingAddress n s) r s)

/-- CCF, RCF, SCF: one byte each; C complemented, reset, set; every other flag and everything else as it was.
41_bit_manipulation.md R214 to R216. -/
def Obligations.CarryInstructions : Prop :=
  decode [0xEF] = .ok .ccf 1 ∧ decode [0xCF] = .ok .rcf 1 ∧ decode [0xDF] = .ok .scf 1 ∧
  ∀ s : State, ∃ t1 t2 t3 : State,
    exec .ccf s = .next t1 ∧ exec .rcf s = .next t2 ∧ exec .scf s = .next t3 ∧
    flag .c t1 = !flag .c s ∧ flag .c t2 = false ∧ flag .c t3 = true ∧
    ∀ t, t = t1 ∨ t = t2 ∨ t = t3 →
      SameOutside s t ∧ SameRegistersBut (· = 0xFFC) s t ∧
      ∀ f : Flag, f ≠ .c → flag f t = flag f s

/-! ### Loads -/

/-- CLR, LD and LDX in all forms: the destination takes the source's value, and no other register, no memory and no
flag changes. 44_load.md sections 1 and 3. -/
def Obligations.LoadResult : Prop :=
  ∀ (i : Instr) (dst : Place) (src : Source) (s : State) (da : Addr) (v : Byte),
    loadOperands i = some (dst, src) → Undisturbed s → placeAddress 0 dst s = .ok da → sourceValue src s = .ok v →
    Writable da s →
      exec i s = .next (storeRegister da v s) ∧
      SameOutside s (storeRegister da v s) ∧ SameRegistersBut (· = da) s (storeRegister da v s)

/-- LDWX: both bytes are read before either is written; two registers change; an odd address is what `ODD_LDWX` says.
44_load.md R268. -/
def Obligations.LoadWordResult : Prop :=
  ∀ (dst src : Addr) (s : State),
    let da := pairAddress s.product.oddLdwx (escaped12 dst s)
    let sa := pairAddress s.product.oddLdwx (escaped12 src s)
    Undisturbed s → Readable sa s → Readable (sa + 1) s → Writable da s → Writable (da + 1) s →
      let t := storeRegister (da + 1) (registerValue 7 (sa + 1) s) (storeRegister da (registerValue 6 sa s) s)
      encode (.ldwx_ER_ER dst src) =
        [0x1F, 0xE8, src.extractLsb' 4 8, src.extractLsb' 0 4 ++ dst.extractLsb' 8 4, dst.extractLsb' 0 8] ∧
      exec (.ldwx_ER_ER dst src) s = .next t ∧ SameOutside s t ∧ SameRegistersBut (fun a => a = da ∨ a = da + 1) s t

/-- LEA in both forms: the sum of the source and the signed displacement is the result; no flag, no memory, no other
register. 44_load.md R272. -/
def Obligations.LoadEffectiveResult : Prop :=
  (∀ (dst base : Nib) (x : Byte) (s : State), Undisturbed s →
    Readable (workingAddress base s) s → Writable (workingAddress dst s) s →
    encode (.lea_r_Xr dst base x) = [0x98, dst ++ base, x] ∧
    exec (.lea_r_Xr dst base x) s = .next (storeRegister (workingAddress dst s)
      (BitVec.ofInt 8 ((registerValue 6 (workingAddress base s) s).toNat + x.toInt)) s)) ∧
  (∀ (dst base : Nib) (x : Byte) (w : Word) (s : State),
    let da := pairAddress s.product.oddPair (workingAddress dst s)
    Undisturbed s → readPair 6 (workingAddress base s) s = .ok w → Writable da s → Writable (da + 1) s →
      ∃ r : Word, (r.toNat : Int) = ((w.toNat : Int) + x.toInt) % 65536 ∧
        encode (.lea_rr_Xrr dst base x) = [0x99, dst ++ base, x] ∧
        exec (.lea_rr_Xrr dst base x) s = .next
          (storeRegister (da + 1) (BitVec.ofNat 8 r.toNat) (storeRegister da (BitVec.ofNat 8 (r.toNat / 256)) s)))

/-! ### Stack -/

/-- The Stack Pointer is 12 bits; moving it keeps SPH[7:4] and changes nothing but SPH and SPL. 10_state.md R41.
Model's choices: notes/assumptions/25. -/
def Obligations.StackPointerMoves : Prop :=
  ∀ (v : Addr) (s : State),
    spOf s = s.sph.toNat % 16 * 256 + s.spl.toNat ∧
    stackPointer (setStackPointer v s) = v ∧
    (setStackPointer v s).sph.toNat / 16 = s.sph.toNat / 16 ∧
    SameOutside s (setStackPointer v s) ∧
    SameRegistersBut (fun a => a = 0xFFE ∨ a = 0xFFF) s (setStackPointer v s)

/-- PUSH in its three forms and PUSHX: SP goes down by one and the source's value, read before, is stored there. POP in
both forms and POPX: the byte at SP goes to the destination, then SP goes up by one from what the destination write left
in it. 44_load.md section 5, 10_state.md section 4.4, section 7.
Model's choices: notes/assumptions/15. -/
def Obligations.PushAndPop : Prop :=
  (∀ (i : Instr) (src : Source) (s : State) (v : Byte), pushSource i = some src → Undisturbed s →
    sourceValue src s = .ok v → Pushable s → exec i s = .next (pushed v s)) ∧
  (∀ (i : Instr) (p : Place) (s : State) (da : Addr), popPlace i = some p → Undisturbed s →
    placeAddress 0 p s = .ok da → available (stackPointer s) s = true → Readable (stackPointer s) s → Writable da s →
      let t := storeRegister da (registerValue 6 (stackPointer s) s) s
      spOf t ≠ 0xFFF → exec i s = .next (popped t))

/-- Stepping SP below 000h or above FFFh stops by name. A push or a pop at a register the product does not have stops by
name or goes on: the byte pushed is lost, the byte popped is what the read of such a register answers; which of the two
is open (notes/assumptions/9.md). 10_state.md R45, 20_memory.md section 8.
Model's choices: notes/assumptions/9. -/
def Obligations.StackEnds : Prop :=
  (∀ (i : Instr) (src : Source) (s : State) (v : Byte), pushSource i = some src → Undisturbed s →
    sourceValue src s = .ok v →
    (spOf s = 0 → exec i s = .refused .stackOverflow) ∧
    (spOf s ≠ 0 → available (stackPointer s - 1) s = false → Writable (stackPointer s - 1) s →
      exec i s = .refused (.stackUnavailable (stackPointer s - 1)) ∨
        exec i s = .next (setStackPointer (stackPointer s - 1) s))) ∧
  (∀ (i : Instr) (p : Place) (s : State) (da : Addr), popPlace i = some p → Undisturbed s →
    placeAddress 0 p s = .ok da → Readable (stackPointer s) s → Writable da s →
    let t := storeRegister da (registerValue 6 (stackPointer s) s) s
    (available (stackPointer s) s = true → spOf t = 0xFFF → exec i s = .refused .stackUnderflow) ∧
    (available (stackPointer s) s = false → spOf t ≠ 0xFFF →
      exec i s = .refused (.stackUnavailable (stackPointer s)) ∨ exec i s = .next (popped t))) ∧
  (∀ (t : Word) (v : Byte) (s : State), Undisturbed s → available 0x000 s = true → available 0x001 s = true →
    (spOf s < 2 → exec (.call_DA t) s = .refused .stackOverflow) ∧
    (spOf s < 3 → exec (.trap v) s = .refused .stackOverflow) ∧
    (0xFFE ≤ spOf s → exec .ret s = .refused .stackUnderflow) ∧
    (0xFFD ≤ spOf s → exec .iret s = .refused .stackUnderflow))

/-! ### Program and Data Memory -/

/-- LDC (both register destinations) and LDE from memory: the byte at the pair's address goes to the destination.
42_block_transfer.md section 2. -/
def Obligations.MemoryLoadResult : Prop :=
  ∀ (i : Instr) (program : Bool) (p : Place) (rr : Nib) (s : State) (da : Addr) (a : Word),
    memoryLoad i = some (program, p, rr) → Undisturbed s → placeAddress 0 p s = .ok da →
    readPair 4 (workingAddress rr s) s = .ok a → Writable da s →
      let t := storeRegister da (if program then programByte a s else dataByte a s) s
      exec i s = .next t ∧ SameOutside s t ∧ SameRegistersBut (· = da) s t

/-- LDC and LDE to memory: the register's value is stored at the pair's address; no register, no flag and no other byte
of either memory changes. 42_block_transfer.md section 2. -/
def Obligations.MemoryStoreResult : Prop :=
  ∀ (i : Instr) (program : Bool) (rr r : Nib) (s : State) (a : Word),
    memoryStore i = some (program, rr, r) → Undisturbed s → readPair 0 (workingAddress rr s) s = .ok a →
    Readable (workingAddress r s) s →
      let v := registerValue 6 (workingAddress r s) s
      ∃ t : State, exec i s = .next t ∧ t = (if program then writeProgram a v s else writeData a v s) ∧
        t.pc = s.pc ∧ SameRegistersBut (fun _ => False) s t ∧
        (∀ b, b ≠ a ∨ program = false → programByte b t = programByte b s) ∧
        (∀ b, b ≠ a ∨ program = true → dataByte b t = dataByte b s)

/-- LDCI and LDEI in both directions: the transfer, then the pointer register and the pair each one up, on what they hold
by then. 42_block_transfer.md section 2.
Model's choices: notes/assumptions/29. -/
def Obligations.BlockTransferResult : Prop :=
  (∀ (i : Instr) (program : Bool) (r rr : Nib) (s : State) (a : Word) (da : Addr),
    blockLoad i = some (program, r, rr) → Undisturbed s → placeAddress 0 (.viaWorking r) s = .ok da →
    readPair 4 (workingAddress rr s) s = .ok a → Writable da s →
    let ra := workingAddress r s
    let pa := pairAddress s.product.oddPair (workingAddress rr s)
    Writable ra s → Writable pa s → Writable (pa + 1) s →
      let s1 := storeRegister da (if program then programByte a s else dataByte a s) s
      let s2 := storeRegister ra (registerValue 8 ra s1 + 1) s1
      let w := ((registerValue 9 pa s2).toNat * 256 + (registerValue 10 (pa + 1) s2).toNat + 1) % 65536
      exec i s = .next (storeRegister (pa + 1) (BitVec.ofNat 8 w) (storeRegister pa (BitVec.ofNat 8 (w / 256)) s2))) ∧
  (∀ (i : Instr) (program : Bool) (rr r : Nib) (s : State) (a : Word) (v : Byte),
    blockStore i = some (program, rr, r) → Undisturbed s → readPair 0 (workingAddress rr s) s = .ok a →
    sourceValue (.place (.viaWorking r)) s = .ok v →
    let ra := workingAddress r s
    let pa := pairAddress s.product.oddPair (workingAddress rr s)
    Writable ra s → Writable pa s → Writable (pa + 1) s →
      let s1 := if program then writeProgram a v s else writeData a v s
      let s2 := storeRegister ra (registerValue 8 ra s1 + 1) s1
      let w := ((registerValue 9 pa s2).toNat * 256 + (registerValue 10 (pa + 1) s2).toNat + 1) % 65536
      exec i s = .next (storeRegister (pa + 1) (BitVec.ofNat 8 w) (storeRegister pa (BitVec.ofNat 8 (w / 256)) s2)))

/-! ### CPU control -/

/-- DI, EI, HALT, NOP, SRP, STOP, WDT, ATM outside an atomic block, and BRK: opcodes and effects.
43_cpu_control.md, 46_program_control.md section 2.
Model's choices: notes/assumptions/16, 21, 33, 37. -/
def Obligations.CpuControlResult : Prop :=
  (decode [0x0F] = .ok .nop 1 ∧ decode [0x5F] = .ok .wdt 1 ∧ decode [0x8F] = .ok .di 1 ∧ decode [0x9F] = .ok .ei 1 ∧
    decode [0x2F] = .ok .atm 1 ∧ decode [0x7F] = .ok .halt 1 ∧ decode [0x6F] = .ok .stop 1 ∧
    decode [0x00] = .ok .brk 1 ∧ ∀ v, decode [0x01, v] = .ok (.srp v) 2) ∧
  ∀ (s : State) (v : Byte),
    exec .nop s = .next s ∧
    exec (.srp v) s = .next { s with rp := v } ∧
    exec .wdt s = .next { s with wdtOn := true, wdtStart := s.tick } ∧
    exec .di s = .next { s with irqctl := BitVec.ofNat 8 (s.irqctl.toNat % 128) } ∧
    exec .ei s = .next { s with irqctl := BitVec.ofNat 8 (s.irqctl.toNat % 128 + 128) } ∧
    (s.atm = 0 → exec .atm s = .next { s with atm := 3 }) ∧
    (s.atm = 0 → exec .halt s = .next { s with mode := .halt }) ∧
    (s.atm = 0 → exec .stop s = .next { s with mode := .stop }) ∧
    (s.product.brkAction = .nop → exec .brk s = .next s) ∧
    (s.product.brkAction = .endOfRun → exec .brk s = .fault (.debuggerBreak s.pc))

/-- ATM inside an atomic block is the Illegal Instruction Trap with the address of the ATM byte, and closes the block;
ATM outside one opens it. 43_cpu_control.md R241.
Model's choices: notes/assumptions/27. -/
def Obligations.AtomInsideAtom : Prop :=
  ∀ s : State,
    (s.atm ≠ 0 → Undisturbed s → RoomForFrame (s.pc - 1) s →
      exec .atm s = .next { entered (s.pc - 1) 0x0006 s.product.trapClearsIrqe s with atm := 0 }) ∧
    (s.atm = 0 → exec .atm s = .next { s with atm := 3 })

/-- Inside an atomic block no offered interrupt is granted and no DMA request is, whatever the enable, neither between two
instructions nor between two byte accesses of one, and every completed instruction but ATM, HALT and STOP brings the block
one nearer its end; HALT and STOP enter their mode, and how much of the block is left then is open, at most 3: that they
go on is the model's choice (notes/assumptions/14.md). 43_cpu_control.md, ATM.
Model's choices: notes/assumptions/14, 19. -/
def Obligations.AtomicBlock : Prop :=
  (∀ (v : Word) (s : State), s.atm ≠ 0 → offeredStep v s = coreStep s) ∧
  (∀ (l : Location) (v : Byte) (m : Move) (rest : List Input) (s : State), s.atm ≠ 0 →
    m = .dmaRead l ∨ m = .dmaWrite l v → s.inputs = .agent m :: rest → step s = .next (begun rest s)) ∧
  (∀ (ms : List Move) (rest : List (List Move)) (s : State), s.atm ≠ 0 →
    (∀ m ∈ ms, ∃ (l : Location) (v : Byte), m = .dmaRead l ∨ m = .dmaWrite l v) → s.midway = ms :: rest →
      gap s = .ok { s with midway := rest }) ∧
  (∀ (i : Instr) (n : Nat) (s t : State), i ≠ .atm → i ≠ .halt → i ≠ .stop → Undisturbed s →
    runInstruction i n s = .next t → t.atm = s.atm - 1) ∧
  (∀ s : State, s.atm ≠ 0 →
      ∃ n ≤ 3, exec .halt s = .next { s with mode := .halt, atm := n } ∧
        exec .stop s = .next { s with mode := .stop, atm := n })

/-! ### Control transfer -/

/-- Table 2, code by code; codes 8 to F are the negations of 0 to 7; the code is the upper nibble of the opcode of JP cc
and JR cc, and code 8 is the unconditional JP and JR. 10_state.md R37. -/
def Obligations.ConditionCodes : Prop :=
  (∀ (n : Nib) (l : FlagLayout) (f : Byte),
    condHolds (condOf n) l f = true ↔
      holdsCode n.toNat (getFlag l .c f) (getFlag l .z f) (getFlag l .s f) (getFlag l .v f)) ∧
  (∀ (n : Nib) (l : FlagLayout) (f : Byte), condHolds (condOf (n ^^^ 0x8)) l f = !condHolds (condOf n) l f) ∧
  (∀ (n : Nib) (x hi lo : Byte), decode [n ++ 0xB#4, x] = .ok (.jr_cc (condOf n) x) 2 ∧
    decode [n ++ 0xD#4, hi, lo] = .ok (.jp_cc (condOf n) (hi ++ lo)) 3) ∧
  (∀ (t : Word) (x : Byte), encode (.jp_DA t) = encode (.jp_cc (condOf 8) t) ∧
    encode (.jr x) = encode (.jr_cc (condOf 8) x))

/-- JP, JP cc, JR, JR cc and JP through a pair: the Program Counter takes the target where the condition holds; nothing
else changes but what the Fetch Unit holds; and their bytes. 46_program_control.md R319 to R322. -/
def Obligations.JumpResult : Prop :=
  ∀ (s : State) (t : Word) (x a : Byte) (cc : Cond),
    exec (.jp_DA t) s = .next { s with pc := t, stale := [] } ∧
    exec (.jr x) s = .next { s with pc := relativeTarget x s, stale := [] } ∧
    exec (.jp_cc cc t) s = .next (if condHolds cc s.product.flagBit s.flags then { s with pc := t, stale := [] } else s) ∧
    exec (.jr_cc cc x) s =
      .next (if condHolds cc s.product.flagBit s.flags then { s with pc := relativeTarget x s, stale := [] } else s) ∧
    (∀ w, Undisturbed s → readPair 4 (escaped8 a s) s = .ok w →
      exec (.jp_IRR a) s = .next { s with pc := w, stale := [] }) ∧
    encode (.jp_DA t) = [0x8D, t.extractLsb' 8 8, t.extractLsb' 0 8] ∧ encode (.jr x) = [0x8B, x] ∧
    encode (.jp_IRR a) = [0xC4, a] ∧
    ∀ (n : Nib) (hi lo : Byte), decode [n ++ 0xB#4, x] = .ok (.jr_cc (condOf n) x) 2 ∧
      decode [n ++ 0xD#4, hi, lo] = .ok (.jp_cc (condOf n) (hi ++ lo)) 3

/-- BTJ, BTJNZ and BTJZ, direct and through a pointer: the jump is taken exactly where the tested bit equals the
polarity; nothing else changes. 46_program_control.md R313 to R315. -/
def Obligations.BitJumpResult : Prop :=
  ∀ (i : Instr) (p : Bool) (b : BitNo) (src : Place) (x : Byte) (s : State) (v : Byte),
    bitJump i = some (p, b, src, x) → Undisturbed s → sourceValue (.place src) s = .ok v →
      (∀ r, src = .working r →
        encode i = [0xF6, BitVec.ofNat 8 (p.toNat * 128 + b.toNat * 16 + r.toNat), x]) ∧
      (∀ r, src = .viaWorking r →
        encode i = [0xF7, BitVec.ofNat 8 (p.toNat * 128 + b.toNat * 16 + r.toNat), x]) ∧
      exec i s = .next (if v.getLsbD b.toNat = p then { s with pc := relativeTarget x s, stale := [] } else s)

/-- DJNZ: the working register goes down by one without a flag, and the jump is taken unless it is 0 then.
46_program_control.md R317. -/
def Obligations.DjnzResult : Prop :=
  ∀ (n : Nib) (x : Byte) (s : State), Undisturbed s → Readable (workingAddress n s) s →
    Writable (workingAddress n s) s →
    let d := registerValue 2 (workingAddress n s) s
    let t := storeRegister (workingAddress n s) (BitVec.ofNat 8 (d.toNat + 255)) s
    decode [n ++ 0xA#4, x] = .ok (.djnz n x) 2 ∧ exec (.djnz n x) s =
      .next (if d.toNat = 1 then t else { t with pc := relativeTarget x s, stale := [] })

/-- CALL in both forms: the address of the next instruction is pushed, most significant byte at the lower address, and
control goes to the target, which is read before the push. RET: the Program Counter takes the two bytes at SP, most
significant first, and SP goes up by two; no flag, no other register. 46_program_control.md R316, R323. -/
def Obligations.CallAndReturn : Prop :=
  (∀ (s : State) (t : Word) (a : Byte), Undisturbed s → RoomForWord s.pc s →
    exec (.call_DA t) s = .next (branchTo t (pushedWord s.pc s)) ∧
    (∀ w, readPair 4 (escaped8 a s) s = .ok w →
      exec (.call_IRR a) s = .next (branchTo w (pushedWord s.pc s)))) ∧
  (∀ s : State, Undisturbed s → Poppable s → Poppable (popped s) →
    exec .ret s = .next (branchTo
      (registerValue 0 (stackPointer s) s ++ registerValue 1 (stackPointer (popped s)) (popped s))
      (popped (popped s)))) ∧
  decode [0xAF] = .ok .ret 1 ∧
  ∀ (t : Word) (a : Byte), encode (.call_DA t) = [0xD6, t.extractLsb' 8 8, t.extractLsb' 0 8] ∧
    encode (.call_IRR a) = [0xD4, a]

/-- A RET after a CALL comes back to the instruction after the CALL with SP and every register but the two stack bytes
as they were. 46_program_control.md section 2. -/
def Obligations.CallThenReturn : Prop :=
  ∀ (target : Word) (s : State), s.Inv → PlainStack 2 s →
    ∃ t u : State, exec (.call_DA target) s = .next t ∧ t.pc = target ∧ exec .ret t = .next u ∧ u.pc = s.pc ∧
      stackPointer u = stackPointer s ∧
      SameRegistersBut (fun a => a = stackPointer s - 1 ∨ a = stackPointer s - 2) s u

/-- The frame of TRAP, of the Illegal Instruction Trap and of interrupt entry, read back from the stack: FLAGS at the
final SP, the return address's most significant byte at SP + 1, its least significant byte at SP + 2; every other
register as it was. 46_program_control.md R325.
Model's choices: notes/assumptions/18. -/
def Obligations.EntryFrame : Prop :=
  ∀ (ret vector : Word) (clears : Bool) (s : State), s.Inv → PlainStack 3 s →
    RoomForFrame ret s ∧ takeException ret vector clears s = .ok (entered ret vector clears s) ∧
    let t := entered ret vector clears s
    stackPointer t = stackPointer s - 3 ∧
    (∀ k, registerValue k (stackPointer t) t = s.flags) ∧
    (∀ k, registerValue k (stackPointer t + 1) t = ret.extractLsb' 8 8) ∧
    (∀ k, registerValue k (stackPointer t + 2) t = ret.extractLsb' 0 8) ∧
    t.pc = programWord vector s ∧ t.flags = s.flags ∧ t.rp = s.rp ∧
    t.irqctl = (if clears then s.irqctl &&& 0x7F else s.irqctl) ∧
    SameRegistersBut (fun a => a = 0xFFE ∨ a = 0xFFF ∨ a = 0xFCF ∨ a = stackPointer s - 1 ∨
      a = stackPointer s - 2 ∨ a = stackPointer s - 3) s t

/-- TRAP: the entry with the next instruction's address through the vector at twice its number; whether IRQCTL[7] is
cleared is what the parameter `TRAP_CLEARS_IRQE` says (notes/assumptions/18.md). 46_program_control.md section 2.
Model's choices: notes/assumptions/18. -/
def Obligations.TrapResult : Prop :=
  ∀ (v : Byte) (s : State), Undisturbed s → RoomForFrame s.pc s →
    decode [0xF2, v] = .ok (.trap v) 2 ∧ exec (.trap v) s =
      .next (entered s.pc (BitVec.ofNat 16 (2 * v.toNat)) s.product.trapClearsIrqe s)

/-- IRET: FLAGS and the Program Counter are popped, SP goes up by three, IRQCTL[7] is set. 46_program_control.md section
2. -/
def Obligations.InterruptReturnResult : Prop :=
  ∀ s : State, Undisturbed s → Poppable s →
    let s1 := withFlags (registerValue 0 (stackPointer s) s) (popped s)
    Poppable s1 → Poppable (popped s1) →
      exec .iret s = .next (branchTo
        (registerValue 1 (stackPointer s1) s1 ++ registerValue 2 (stackPointer (popped s1)) (popped s1))
        { popped (popped s1) with irqctl := s.irqctl ||| 0x80 })

/-- An IRET after a TRAP comes back to the instruction after the TRAP with FLAGS, SP and every register but the three
stack bytes and IRQCTL as they were, and with interrupts enabled. 46_program_control.md section 2.
Model's choices: notes/assumptions/18. -/
def Obligations.TrapThenReturn : Prop :=
  ∀ (v : Byte) (s : State), s.Inv → PlainStack 3 s →
    ∃ t u : State, exec (.trap v) s = .next t ∧ exec .iret t = .next u ∧
      u.pc = s.pc ∧ u.flags = s.flags ∧ stackPointer u = stackPointer s ∧ interruptsEnabled u = true ∧
      SameRegistersBut (fun a => a = 0xFCF ∨ a = stackPointer s - 1 ∨ a = stackPointer s - 2 ∨
        a = stackPointer s - 3) s u ∧
      ∀ a, programByte a u = programByte a s ∧ dataByte a u = dataByte a s

/-! ### Exceptions and the step -/

/-- An offered request is granted exactly when all four conditions hold. 60_exceptions.md R366.
Model's choices: notes/assumptions/19, 21, 32. -/
def Obligations.InterruptGrant : Prop :=
  ∀ (v : Word) (s : State),
    granted v s = true ↔
      (v ∈ s.product.irqVectors ∧ v.toNat % 2 = 0 ∧ 8 ≤ v.toNat) ∧ s.irqctl.getLsbD 7 = true ∧ s.atm = 0 ∧
      (s.mode = .run ∨ (s.mode = .halt ∧ .grantedInterrupt ∈ s.product.haltWake) ∨
        (s.mode = .stop ∧ .grantedInterrupt ∈ s.product.stopWake))

/-- The step with a granted request tells the controller the vector taken and is the entry through it with the current
Program Counter, in Run mode; one not granted that may wake the core ends Halt or Stop mode; else the step is the core's
own, which in Halt and Stop mode changes nothing but the step counter. A time-out of the Watchdog Timer is what
`WDT_MODEL` makes of it: an entry through 0004h, or nothing. 60_exceptions.md section 3, section 6, 43_cpu_control.md, HALT
and STOP.
Model's choices: notes/assumptions/18, 19, 21, 32, 37. -/
def Obligations.InterruptStep : Prop :=
  (∀ (v : Word) (rest : List Input) (s : State), s.inputs = .core (.offer v) [] :: rest →
    let s0 := { begun rest s with outputs := .acknowledge v :: s.outputs }
    (granted v s = true → RoomForFrame s.pc s0 →
      step s = .next { entered s.pc v s.product.irqEntryClearsIrqe s0 with mode := .run, tick := s.tick + 1 }) ∧
    (Wakes v s → step s = .next { begun rest s with mode := .run, tick := s.tick + 1 }) ∧
    (granted v s = false → ¬ Wakes v s → step s = coreStep (begun rest s))) ∧
  (∀ (rest : List Input) (s : State), s.inputs = .core .timeout [] :: rest →
    (∀ m c, TimedOut s → s.product.watchdog.action = .vector true m c → s.mode = .run → s.atm = 0 →
      (m = true → s.irqctl.getLsbD 7 = true) → RoomForFrame s.pc (begun rest s) →
        step s = .next { entered s.pc 0x0004 c (begun rest s) with mode := .run, tick := s.tick + 1 }) ∧
    (¬ TimedOut s ∨ s.product.watchdog.action = .never → step s = coreStep (begun rest s))) ∧
  (∀ s : State, s.mode ≠ .run → Quiet s → step s = .next { begun s.inputs.tail s with tick := s.tick + 1 }) ∧
  (∀ s : State, s.mode ≠ .run → coreStep s = .next { s with midway := [], tick := s.tick + 1 })

/-- In Run mode, with no outside agent moving, a step runs the instruction the bytes at the Program Counter decode to:
`exec` with the Program Counter advanced over it, then the countdown of the atomic block and the step counter. Those
bytes are Program Memory's where no store since the last taken branch changed them, and all of them are right after a
taken branch. 00_scope.md section 5, 70_reset_and_hazards.md section 5.
Model's choices: notes/assumptions/13, 36. -/
def Obligations.StepRunsDecoded : Prop :=
  (∀ (s : State) (i : Instr) (n : Nat), Quiet s → s.mode = .run → decode (fetchBytes s) = .ok i n →
    step s =
      match exec i { begun s.inputs.tail s with pc := s.pc + BitVec.ofNat 16 n } with
      | .next t => .next { t with
          atm := if i = .atm ∨ i = .halt ∨ i = .stop then t.atm else t.atm - 1
          tick := t.tick + 1
          midway := [] }
      | .fault f => .fault f
      | .refused r => .refused r) ∧
  (∀ (k : Nat) (s : State), staleByte s.stale (s.pc + BitVec.ofNat 16 k).toNat = none →
    fetchByte k s = programByte (s.pc + BitVec.ofNat 16 k) s) ∧
  (∀ (t : Word) (k : Nat) (s : State), fetchByte k (branchTo t s) = programByte (t + BitVec.ofNat 16 k) s)

/-- Reset, asserted from outside or by a time-out of the Watchdog Timer: the Program Counter takes the word at 0002h, the
mode is Run, no atomic block is open, both memories stay as they are, and F1 and F2 keep what they held. In the middle of
an instruction it does so too, and what the instruction had stored stays stored: said of LDCI to Program Memory, with the
Reset before its first pointer update. 70_reset_and_hazards.md section 1, 60_exceptions.md section 5.
Model's choices: notes/assumptions/20, 22, 37. -/
def Obligations.ResetEffects : Prop :=
  (∀ (s : State) (ms : List (List Move)) (rest : List Input),
    s.inputs = .agent .reset :: rest ∨
      (s.inputs = .core .timeout ms :: rest ∧ TimedOut s ∧ s.product.watchdog.action = .reset) →
    ∃ t : State, step s = .next t ∧ t.pc = programWord 0x0002 s ∧ t.mode = .run ∧ t.atm = 0 ∧ t.pm = s.pm ∧
      t.dm = s.dm ∧ flag .f1 t = flag .f1 s ∧ flag .f2 t = flag .f2 s) ∧
  (∀ (rr r : Nib) (s : State) (a : Word) (v : Byte), Undisturbed s → readPair 0 (workingAddress rr s) s = .ok a →
    sourceValue (.place (.viaWorking r)) s = .ok v →
      ∃ t : State, exec (.ldci_Irr_Ir rr r) { s with midway := [[], [], [], [], [], [.reset]] } = .next t ∧
        t.pc = programWord 0x0002 (writeProgram a v s) ∧ t.mode = .run ∧ t.atm = 0 ∧
        t.pm = (writeProgram a v s).pm ∧ t.dm = s.dm ∧ flag .f1 t = flag .f1 s ∧ flag .f2 t = flag .f2 s) ∧
  (∀ (p : Product) (pm dm : List Host.Cell),
    (State.powerUp p pm dm).pc = memoryWord p.pmAvailable pm 0x0002 ∧ (State.powerUp p pm dm).mode = .run ∧
    (State.powerUp p pm dm).atm = 0 ∧ (State.powerUp p pm dm).pm = pm ∧ (State.powerUp p pm dm).dm = dm)

/-- The invariant of the state holds after reset.
Model's choices: notes/assumptions/3, 4. -/
def Obligations.InvariantAtReset : Prop := State.reset.Inv

/-- Every step that goes on keeps the invariant of the state, and the implementation parameters.
Model's choices: notes/assumptions/2, 3, 4. -/
def Obligations.InvariantKept : Prop :=
  ∀ s t : State, step s = .next t → t.product = s.product ∧ (s.Inv → t.Inv)
end

