-- ==== Sys2Proof/Laws/Flags.lean ====
section
/-!
SUPPORT. What a flag update leaves in each flag.
-/

namespace Sys2Proof.Machine

/-- No two flags have one place. -/
theorem bitOf_injective (l : FlagLayout) (f g : Flag) : l.bitOf f = l.bitOf g ↔ f = g := by
  have h : ([Flag.c, .z, .s, .v, .d, .h, .f2, .f1].map l.bitOf).Nodup := l.distinct
  have all : ∀ f : Flag, f ∈ [Flag.c, .z, .s, .v, .d, .h, .f2, .f1] := by intro f; cases f <;> decide
  exact ⟨fun e => List.inj_on_of_nodup_map h (all f) (all g) e, fun e => e ▸ rfl⟩

/-- Setting one flag changes that flag only. -/
theorem getFlag_setFlag (l : FlagLayout) (f g : Flag) (x : Bool) (b : Byte) :
    getFlag l g (setFlag l f x b) = if g = f then x else getFlag l g b := by
  have key : ∀ i j : Nat, i < 8 → j < 8 → ∀ x : Bool,
      (if x then b ||| (1#8 <<< i) else b &&& ~~~(1#8 <<< i)).getLsbD j = if j = i then x else b.getLsbD j := by
    intro i j hi hj x
    rcases lt_trichotomy j i with h | h | h
    · cases x <;> simp [h, Nat.ne_of_lt h, hj]
    · cases x <;> simp [h, hi]
    · have : ¬ j < i := by omega
      have h1 : j - i ≠ 0 := by omega
      cases x <;> simp [this, Nat.ne_of_gt h, hj, h1]
  simp only [← bitOf_injective l g f, Fin.ext_iff]
  exact key _ _ (l.bitOf f).isLt (l.bitOf g).isLt x

theorem getFlag_putFlag (l : FlagLayout) (f g : Flag) (x : Option Bool) (b : Byte) :
    getFlag l g (putFlag l f x b) = if g = f then x.getD (getFlag l g b) else getFlag l g b := by
  cases x
  · simp [putFlag]
  · simp [putFlag, getFlag_setFlag]

/-- An update changes the flags it names, each to its new value, and no other. -/
theorem getFlag_applyUpdate (l : FlagLayout) (u : FlagUpdate) (f : Flag) (b : Byte) :
    getFlag l f (applyUpdate l u b) = (updateOf u f).getD (getFlag l f b) := by
  cases f <;> simp [applyUpdate, getFlag_putFlag, updateOf]

/-- An update that names no flag leaves the byte as it is. -/
theorem applyUpdate_none (l : FlagLayout) (b : Byte) : applyUpdate l {} b = b := rfl

/-- Merging the user flags keeps F1 and F2 of the one byte and the status flags of the other. -/
theorem getFlag_mergeUserFlags (l : FlagLayout) (f : Flag) (status user : Byte) :
    getFlag l f (mergeUserFlags l status user) =
      if f = .f1 ∨ f = .f2 then getFlag l f user else getFlag l f status := by
  cases f <;> simp [mergeUserFlags, getFlag_setFlag]

end Sys2Proof.Machine
end

