-- ==== Sys2Proof/Laws/Memory.lean ====
section
/-!
SUPPORT. The laws of one memory: what a write leaves to be read, and that it keeps the canonical form.
-/

namespace Sys2Proof.Machine

theorem readCell_eraseCell_other (blank : Byte) (m : List Host.Cell) (a b : Nat) (h : b ≠ a) :
    readCell blank (eraseCell m a) b = readCell blank m b := by
  induction m with
  | nil => rfl
  | cons c m ih =>
    obtain ⟨d, w⟩ := c
    by_cases hd : d = a
    · subst hd
      simp [eraseCell, readCell, Ne.symm h]
    · simp [eraseCell, readCell, hd, ih]

theorem readCell_insertCell_other (blank : Byte) (m : List Host.Cell) (a b : Nat) (v : Byte) (h : b ≠ a) :
    readCell blank (insertCell m a v) b = readCell blank m b := by
  induction m with
  | nil => simp [insertCell, readCell, Ne.symm h]
  | cons c m ih =>
    obtain ⟨d, w⟩ := c
    by_cases h1 : a < d
    · simp [insertCell, readCell, h1, Ne.symm h]
    · by_cases h2 : a = d
      · subst h2
        simp [insertCell, readCell, Ne.symm h]
      · simp [insertCell, readCell, h1, h2, ih]

theorem readCell_insertCell_same (blank : Byte) (m : List Host.Cell) (a : Nat) (v : Byte) :
    readCell blank (insertCell m a v) a = v := by
  induction m with
  | nil => simp [insertCell, readCell]
  | cons c m ih =>
    obtain ⟨d, w⟩ := c
    by_cases h1 : a < d
    · simp [insertCell, readCell, h1]
    · by_cases h2 : a = d
      · simp [insertCell, readCell, h2]
      · simp [insertCell, readCell, h1, h2, Ne.symm h2, ih]

/-- In canonical form nothing is listed below the bound. -/
theorem readCell_below (blank : Byte) (m : List Host.Cell) (lo a : Nat) (hm : wfAbove blank lo m = true)
    (ha : a < lo) : readCell blank m a = blank := by
  induction m generalizing lo with
  | nil => rfl
  | cons c m ih =>
    obtain ⟨d, w⟩ := c
    simp only [wfAbove, Bool.and_eq_true, decide_eq_true_eq] at hm
    have : d ≠ a := by omega
    simp [readCell, this, ih (d + 1) hm.2 (by omega)]

theorem readCell_eraseCell_same (blank : Byte) (m : List Host.Cell) (lo a : Nat)
    (hm : wfAbove blank lo m = true) : readCell blank (eraseCell m a) a = blank := by
  induction m generalizing lo with
  | nil => rfl
  | cons c m ih =>
    obtain ⟨d, w⟩ := c
    simp only [wfAbove, Bool.and_eq_true, decide_eq_true_eq] at hm
    by_cases hd : d = a
    · subst hd
      simpa [eraseCell] using readCell_below blank m (d + 1) d hm.2 (by omega)
    · simpa [eraseCell, readCell, hd] using ih (d + 1) hm.2

/-- Reading where nothing was written gives what was there. -/
theorem readCell_writeCell_other (blank : Byte) (m : List Host.Cell) (a b : Nat) (v : Byte) (h : b ≠ a) :
    readCell blank (writeCell blank m a v) b = readCell blank m b := by
  unfold writeCell
  split
  · exact readCell_eraseCell_other blank m a b h
  · exact readCell_insertCell_other blank m a b v h

/-- Reading what was written gives it back. -/
theorem readCell_writeCell_same (blank : Byte) (m : List Host.Cell) (a : Nat) (v : Byte)
    (hm : Memory.wf blank m = true) : readCell blank (writeCell blank m a v) a = v := by
  unfold writeCell
  split
  · next h => rw [h]; exact readCell_eraseCell_same blank m 0 a hm
  · exact readCell_insertCell_same blank m a v

theorem wfAbove_mono (blank : Byte) (m : List Host.Cell) (lo lo' : Nat) (h : lo' ≤ lo)
    (hm : wfAbove blank lo m = true) : wfAbove blank lo' m = true := by
  cases m with
  | nil => rfl
  | cons c m =>
    obtain ⟨d, w⟩ := c
    simp only [wfAbove, Bool.and_eq_true, decide_eq_true_eq] at hm ⊢
    exact ⟨⟨by omega, hm.1.2⟩, hm.2⟩

theorem wfAbove_eraseCell (blank : Byte) (m : List Host.Cell) (lo a : Nat) (hm : wfAbove blank lo m = true) :
    wfAbove blank lo (eraseCell m a) = true := by
  induction m generalizing lo with
  | nil => rfl
  | cons c m ih =>
    obtain ⟨d, w⟩ := c
    simp only [wfAbove, Bool.and_eq_true, decide_eq_true_eq] at hm
    by_cases hd : d = a
    · simpa [eraseCell, hd] using wfAbove_mono blank m (d + 1) lo (by omega) hm.2
    · simp only [eraseCell, hd, if_false, wfAbove, Bool.and_eq_true, decide_eq_true_eq]
      exact ⟨hm.1, ih (d + 1) hm.2⟩

theorem wfAbove_insertCell (blank : Byte) (m : List Host.Cell) (lo a : Nat) (v : Byte) (hv : v ≠ blank)
    (ha : lo ≤ a) (hm : wfAbove blank lo m = true) : wfAbove blank lo (insertCell m a v) = true := by
  induction m generalizing lo with
  | nil => simp [insertCell, wfAbove, hv, ha]
  | cons c m ih =>
    obtain ⟨d, w⟩ := c
    simp only [wfAbove, Bool.and_eq_true, decide_eq_true_eq] at hm
    by_cases h1 : a < d
    · simp only [insertCell, h1, if_true, wfAbove, Bool.and_eq_true, decide_eq_true_eq]
      exact ⟨⟨ha, hv⟩, ⟨by omega, hm.1.2⟩, hm.2⟩
    · by_cases h2 : a = d
      · subst h2
        simp only [insertCell, lt_irrefl, if_false, if_true, wfAbove, Bool.and_eq_true, decide_eq_true_eq]
        exact ⟨⟨ha, hv⟩, hm.2⟩
      · simp only [insertCell, h1, h2, if_false, wfAbove, Bool.and_eq_true, decide_eq_true_eq]
        exact ⟨hm.1, ih (d + 1) (by omega) hm.2⟩

/-- Every write keeps the canonical form. -/
theorem wf_writeCell (blank : Byte) (m : List Host.Cell) (a : Nat) (v : Byte) (hm : Memory.wf blank m = true) :
    Memory.wf blank (writeCell blank m a v) = true := by
  unfold writeCell Memory.wf at *
  split
  · exact wfAbove_eraseCell blank m 0 a hm
  · next h => exact wfAbove_insertCell blank m 0 a v h (Nat.zero_le a) hm

/-- Dropping entries keeps the canonical form. -/
theorem wfAbove_filter (blank : Byte) (keep : Host.Cell → Bool) (m : List Host.Cell) (lo lo' : Nat) (h : lo' ≤ lo)
    (hm : wfAbove blank lo m = true) : wfAbove blank lo' (m.filter keep) = true := by
  induction m generalizing lo lo' with
  | nil => rfl
  | cons c m ih =>
    obtain ⟨a, v⟩ := c
    simp only [wfAbove, Bool.and_eq_true, decide_eq_true_eq] at hm
    rw [List.filter_cons]
    split
    · simp only [wfAbove, Bool.and_eq_true, decide_eq_true_eq]
      exact ⟨⟨h.trans hm.1.1, hm.1.2⟩, ih _ _ le_rfl hm.2⟩
    · exact ih _ _ (by omega) hm.2

theorem wf_filter (blank : Byte) (keep : Host.Cell → Bool) (m : List Host.Cell) (hm : Memory.wf blank m = true) :
    Memory.wf blank (m.filter keep) = true := wfAbove_filter blank keep m 0 0 le_rfl hm

theorem mem_eraseCell (m : List Host.Cell) (a : Nat) (c : Host.Cell) (h : c ∈ eraseCell m a) : c ∈ m := by
  induction m with
  | nil => exact h
  | cons d m ih =>
    obtain ⟨d, w⟩ := d
    by_cases hd : d = a
    · simp only [eraseCell, hd, if_true] at h
      exact List.mem_cons_of_mem _ h
    · simp only [eraseCell, hd, if_false, List.mem_cons] at h ⊢
      exact h.imp id ih

theorem mem_insertCell (m : List Host.Cell) (a : Nat) (v : Byte) (c : Host.Cell) (h : c ∈ insertCell m a v) :
    c = (a, v) ∨ c ∈ m := by
  induction m with
  | nil => simpa [insertCell] using h
  | cons d m ih =>
    obtain ⟨d, w⟩ := d
    by_cases h1 : a < d
    · simpa [insertCell, h1] using h
    · by_cases h2 : a = d
      · simp only [insertCell, h2, lt_irrefl, if_false, if_true, List.mem_cons] at h ⊢
        tauto
      · simp only [insertCell, h1, h2, if_false, List.mem_cons] at h ⊢
        rcases h with h | h
        · exact .inr (.inl h)
        · exact (ih h).imp id .inr

/-- An entry of the memory after a write is the one written or was there before. -/
theorem mem_writeCell (blank : Byte) (m : List Host.Cell) (a : Nat) (v : Byte) (c : Host.Cell)
    (h : c ∈ writeCell blank m a v) : c = (a, v) ∨ c ∈ m := by
  unfold writeCell at h
  split at h
  · exact .inr (mem_eraseCell m a c h)
  · exact mem_insertCell m a v c h

end Sys2Proof.Machine
end

