-- ==== Sys2Proof/Laws/State.lean ====
section
/-!
SUPPORT. What one field update leaves in each field of the state.
-/

namespace Sys2Proof.Machine

@[simp] theorem withPc_pc (v : Word) (s : State) : (withPc v s).pc = v := rfl
@[simp] theorem withPc_flags (v : Word) (s : State) : (withPc v s).flags = s.flags := rfl
@[simp] theorem withPc_rp (v : Word) (s : State) : (withPc v s).rp = s.rp := rfl
@[simp] theorem withPc_sph (v : Word) (s : State) : (withPc v s).sph = s.sph := rfl
@[simp] theorem withPc_spl (v : Word) (s : State) : (withPc v s).spl = s.spl := rfl
@[simp] theorem withPc_irqctl (v : Word) (s : State) : (withPc v s).irqctl = s.irqctl := rfl
@[simp] theorem withPc_rf (v : Word) (s : State) : (withPc v s).rf = s.rf := rfl
@[simp] theorem withPc_pm (v : Word) (s : State) : (withPc v s).pm = s.pm := rfl
@[simp] theorem withPc_dm (v : Word) (s : State) : (withPc v s).dm = s.dm := rfl
@[simp] theorem withPc_atm (v : Word) (s : State) : (withPc v s).atm = s.atm := rfl
@[simp] theorem withPc_mode (v : Word) (s : State) : (withPc v s).mode = s.mode := rfl
@[simp] theorem withPc_wdtOn (v : Word) (s : State) : (withPc v s).wdtOn = s.wdtOn := rfl
@[simp] theorem withPc_stale (v : Word) (s : State) : (withPc v s).stale = s.stale := rfl
@[simp] theorem withPc_wdtStart (v : Word) (s : State) : (withPc v s).wdtStart = s.wdtStart := rfl
@[simp] theorem withPc_inputs (v : Word) (s : State) : (withPc v s).inputs = s.inputs := rfl
@[simp] theorem withPc_outputs (v : Word) (s : State) : (withPc v s).outputs = s.outputs := rfl
@[simp] theorem withPc_midway (v : Word) (s : State) : (withPc v s).midway = s.midway := rfl
@[simp] theorem withPc_tick (v : Word) (s : State) : (withPc v s).tick = s.tick := rfl
@[simp] theorem withPc_product (v : Word) (s : State) : (withPc v s).product = s.product := rfl

@[simp] theorem withFlags_pc (v : Byte) (s : State) : (withFlags v s).pc = s.pc := rfl
@[simp] theorem withFlags_flags (v : Byte) (s : State) : (withFlags v s).flags = v := rfl
@[simp] theorem withFlags_rp (v : Byte) (s : State) : (withFlags v s).rp = s.rp := rfl
@[simp] theorem withFlags_sph (v : Byte) (s : State) : (withFlags v s).sph = s.sph := rfl
@[simp] theorem withFlags_spl (v : Byte) (s : State) : (withFlags v s).spl = s.spl := rfl
@[simp] theorem withFlags_irqctl (v : Byte) (s : State) : (withFlags v s).irqctl = s.irqctl := rfl
@[simp] theorem withFlags_rf (v : Byte) (s : State) : (withFlags v s).rf = s.rf := rfl
@[simp] theorem withFlags_pm (v : Byte) (s : State) : (withFlags v s).pm = s.pm := rfl
@[simp] theorem withFlags_dm (v : Byte) (s : State) : (withFlags v s).dm = s.dm := rfl
@[simp] theorem withFlags_atm (v : Byte) (s : State) : (withFlags v s).atm = s.atm := rfl
@[simp] theorem withFlags_mode (v : Byte) (s : State) : (withFlags v s).mode = s.mode := rfl
@[simp] theorem withFlags_wdtOn (v : Byte) (s : State) : (withFlags v s).wdtOn = s.wdtOn := rfl
@[simp] theorem withFlags_stale (v : Byte) (s : State) : (withFlags v s).stale = s.stale := rfl
@[simp] theorem withFlags_wdtStart (v : Byte) (s : State) : (withFlags v s).wdtStart = s.wdtStart := rfl
@[simp] theorem withFlags_inputs (v : Byte) (s : State) : (withFlags v s).inputs = s.inputs := rfl
@[simp] theorem withFlags_outputs (v : Byte) (s : State) : (withFlags v s).outputs = s.outputs := rfl
@[simp] theorem withFlags_midway (v : Byte) (s : State) : (withFlags v s).midway = s.midway := rfl
@[simp] theorem withFlags_tick (v : Byte) (s : State) : (withFlags v s).tick = s.tick := rfl
@[simp] theorem withFlags_product (v : Byte) (s : State) : (withFlags v s).product = s.product := rfl

@[simp] theorem withRp_pc (v : Byte) (s : State) : (withRp v s).pc = s.pc := rfl
@[simp] theorem withRp_flags (v : Byte) (s : State) : (withRp v s).flags = s.flags := rfl
@[simp] theorem withRp_rp (v : Byte) (s : State) : (withRp v s).rp = v := rfl
@[simp] theorem withRp_sph (v : Byte) (s : State) : (withRp v s).sph = s.sph := rfl
@[simp] theorem withRp_spl (v : Byte) (s : State) : (withRp v s).spl = s.spl := rfl
@[simp] theorem withRp_irqctl (v : Byte) (s : State) : (withRp v s).irqctl = s.irqctl := rfl
@[simp] theorem withRp_rf (v : Byte) (s : State) : (withRp v s).rf = s.rf := rfl
@[simp] theorem withRp_pm (v : Byte) (s : State) : (withRp v s).pm = s.pm := rfl
@[simp] theorem withRp_dm (v : Byte) (s : State) : (withRp v s).dm = s.dm := rfl
@[simp] theorem withRp_atm (v : Byte) (s : State) : (withRp v s).atm = s.atm := rfl
@[simp] theorem withRp_mode (v : Byte) (s : State) : (withRp v s).mode = s.mode := rfl
@[simp] theorem withRp_wdtOn (v : Byte) (s : State) : (withRp v s).wdtOn = s.wdtOn := rfl
@[simp] theorem withRp_stale (v : Byte) (s : State) : (withRp v s).stale = s.stale := rfl
@[simp] theorem withRp_wdtStart (v : Byte) (s : State) : (withRp v s).wdtStart = s.wdtStart := rfl
@[simp] theorem withRp_inputs (v : Byte) (s : State) : (withRp v s).inputs = s.inputs := rfl
@[simp] theorem withRp_outputs (v : Byte) (s : State) : (withRp v s).outputs = s.outputs := rfl
@[simp] theorem withRp_midway (v : Byte) (s : State) : (withRp v s).midway = s.midway := rfl
@[simp] theorem withRp_tick (v : Byte) (s : State) : (withRp v s).tick = s.tick := rfl
@[simp] theorem withRp_product (v : Byte) (s : State) : (withRp v s).product = s.product := rfl

@[simp] theorem withSph_pc (v : Byte) (s : State) : (withSph v s).pc = s.pc := rfl
@[simp] theorem withSph_flags (v : Byte) (s : State) : (withSph v s).flags = s.flags := rfl
@[simp] theorem withSph_rp (v : Byte) (s : State) : (withSph v s).rp = s.rp := rfl
@[simp] theorem withSph_sph (v : Byte) (s : State) : (withSph v s).sph = v := rfl
@[simp] theorem withSph_spl (v : Byte) (s : State) : (withSph v s).spl = s.spl := rfl
@[simp] theorem withSph_irqctl (v : Byte) (s : State) : (withSph v s).irqctl = s.irqctl := rfl
@[simp] theorem withSph_rf (v : Byte) (s : State) : (withSph v s).rf = s.rf := rfl
@[simp] theorem withSph_pm (v : Byte) (s : State) : (withSph v s).pm = s.pm := rfl
@[simp] theorem withSph_dm (v : Byte) (s : State) : (withSph v s).dm = s.dm := rfl
@[simp] theorem withSph_atm (v : Byte) (s : State) : (withSph v s).atm = s.atm := rfl
@[simp] theorem withSph_mode (v : Byte) (s : State) : (withSph v s).mode = s.mode := rfl
@[simp] theorem withSph_wdtOn (v : Byte) (s : State) : (withSph v s).wdtOn = s.wdtOn := rfl
@[simp] theorem withSph_stale (v : Byte) (s : State) : (withSph v s).stale = s.stale := rfl
@[simp] theorem withSph_wdtStart (v : Byte) (s : State) : (withSph v s).wdtStart = s.wdtStart := rfl
@[simp] theorem withSph_inputs (v : Byte) (s : State) : (withSph v s).inputs = s.inputs := rfl
@[simp] theorem withSph_outputs (v : Byte) (s : State) : (withSph v s).outputs = s.outputs := rfl
@[simp] theorem withSph_midway (v : Byte) (s : State) : (withSph v s).midway = s.midway := rfl
@[simp] theorem withSph_tick (v : Byte) (s : State) : (withSph v s).tick = s.tick := rfl
@[simp] theorem withSph_product (v : Byte) (s : State) : (withSph v s).product = s.product := rfl

@[simp] theorem withSpl_pc (v : Byte) (s : State) : (withSpl v s).pc = s.pc := rfl
@[simp] theorem withSpl_flags (v : Byte) (s : State) : (withSpl v s).flags = s.flags := rfl
@[simp] theorem withSpl_rp (v : Byte) (s : State) : (withSpl v s).rp = s.rp := rfl
@[simp] theorem withSpl_sph (v : Byte) (s : State) : (withSpl v s).sph = s.sph := rfl
@[simp] theorem withSpl_spl (v : Byte) (s : State) : (withSpl v s).spl = v := rfl
@[simp] theorem withSpl_irqctl (v : Byte) (s : State) : (withSpl v s).irqctl = s.irqctl := rfl
@[simp] theorem withSpl_rf (v : Byte) (s : State) : (withSpl v s).rf = s.rf := rfl
@[simp] theorem withSpl_pm (v : Byte) (s : State) : (withSpl v s).pm = s.pm := rfl
@[simp] theorem withSpl_dm (v : Byte) (s : State) : (withSpl v s).dm = s.dm := rfl
@[simp] theorem withSpl_atm (v : Byte) (s : State) : (withSpl v s).atm = s.atm := rfl
@[simp] theorem withSpl_mode (v : Byte) (s : State) : (withSpl v s).mode = s.mode := rfl
@[simp] theorem withSpl_wdtOn (v : Byte) (s : State) : (withSpl v s).wdtOn = s.wdtOn := rfl
@[simp] theorem withSpl_stale (v : Byte) (s : State) : (withSpl v s).stale = s.stale := rfl
@[simp] theorem withSpl_wdtStart (v : Byte) (s : State) : (withSpl v s).wdtStart = s.wdtStart := rfl
@[simp] theorem withSpl_inputs (v : Byte) (s : State) : (withSpl v s).inputs = s.inputs := rfl
@[simp] theorem withSpl_outputs (v : Byte) (s : State) : (withSpl v s).outputs = s.outputs := rfl
@[simp] theorem withSpl_midway (v : Byte) (s : State) : (withSpl v s).midway = s.midway := rfl
@[simp] theorem withSpl_tick (v : Byte) (s : State) : (withSpl v s).tick = s.tick := rfl
@[simp] theorem withSpl_product (v : Byte) (s : State) : (withSpl v s).product = s.product := rfl

@[simp] theorem withIrqctl_pc (v : Byte) (s : State) : (withIrqctl v s).pc = s.pc := rfl
@[simp] theorem withIrqctl_flags (v : Byte) (s : State) : (withIrqctl v s).flags = s.flags := rfl
@[simp] theorem withIrqctl_rp (v : Byte) (s : State) : (withIrqctl v s).rp = s.rp := rfl
@[simp] theorem withIrqctl_sph (v : Byte) (s : State) : (withIrqctl v s).sph = s.sph := rfl
@[simp] theorem withIrqctl_spl (v : Byte) (s : State) : (withIrqctl v s).spl = s.spl := rfl
@[simp] theorem withIrqctl_irqctl (v : Byte) (s : State) : (withIrqctl v s).irqctl = v := rfl
@[simp] theorem withIrqctl_rf (v : Byte) (s : State) : (withIrqctl v s).rf = s.rf := rfl
@[simp] theorem withIrqctl_pm (v : Byte) (s : State) : (withIrqctl v s).pm = s.pm := rfl
@[simp] theorem withIrqctl_dm (v : Byte) (s : State) : (withIrqctl v s).dm = s.dm := rfl
@[simp] theorem withIrqctl_atm (v : Byte) (s : State) : (withIrqctl v s).atm = s.atm := rfl
@[simp] theorem withIrqctl_mode (v : Byte) (s : State) : (withIrqctl v s).mode = s.mode := rfl
@[simp] theorem withIrqctl_wdtOn (v : Byte) (s : State) : (withIrqctl v s).wdtOn = s.wdtOn := rfl
@[simp] theorem withIrqctl_stale (v : Byte) (s : State) : (withIrqctl v s).stale = s.stale := rfl
@[simp] theorem withIrqctl_wdtStart (v : Byte) (s : State) : (withIrqctl v s).wdtStart = s.wdtStart := rfl
@[simp] theorem withIrqctl_inputs (v : Byte) (s : State) : (withIrqctl v s).inputs = s.inputs := rfl
@[simp] theorem withIrqctl_outputs (v : Byte) (s : State) : (withIrqctl v s).outputs = s.outputs := rfl
@[simp] theorem withIrqctl_midway (v : Byte) (s : State) : (withIrqctl v s).midway = s.midway := rfl
@[simp] theorem withIrqctl_tick (v : Byte) (s : State) : (withIrqctl v s).tick = s.tick := rfl
@[simp] theorem withIrqctl_product (v : Byte) (s : State) : (withIrqctl v s).product = s.product := rfl

@[simp] theorem withRf_pc (v : List Host.Cell) (s : State) : (withRf v s).pc = s.pc := rfl
@[simp] theorem withRf_flags (v : List Host.Cell) (s : State) : (withRf v s).flags = s.flags := rfl
@[simp] theorem withRf_rp (v : List Host.Cell) (s : State) : (withRf v s).rp = s.rp := rfl
@[simp] theorem withRf_sph (v : List Host.Cell) (s : State) : (withRf v s).sph = s.sph := rfl
@[simp] theorem withRf_spl (v : List Host.Cell) (s : State) : (withRf v s).spl = s.spl := rfl
@[simp] theorem withRf_irqctl (v : List Host.Cell) (s : State) : (withRf v s).irqctl = s.irqctl := rfl
@[simp] theorem withRf_rf (v : List Host.Cell) (s : State) : (withRf v s).rf = v := rfl
@[simp] theorem withRf_pm (v : List Host.Cell) (s : State) : (withRf v s).pm = s.pm := rfl
@[simp] theorem withRf_dm (v : List Host.Cell) (s : State) : (withRf v s).dm = s.dm := rfl
@[simp] theorem withRf_atm (v : List Host.Cell) (s : State) : (withRf v s).atm = s.atm := rfl
@[simp] theorem withRf_mode (v : List Host.Cell) (s : State) : (withRf v s).mode = s.mode := rfl
@[simp] theorem withRf_wdtOn (v : List Host.Cell) (s : State) : (withRf v s).wdtOn = s.wdtOn := rfl
@[simp] theorem withRf_stale (v : List Host.Cell) (s : State) : (withRf v s).stale = s.stale := rfl
@[simp] theorem withRf_wdtStart (v : List Host.Cell) (s : State) : (withRf v s).wdtStart = s.wdtStart := rfl
@[simp] theorem withRf_inputs (v : List Host.Cell) (s : State) : (withRf v s).inputs = s.inputs := rfl
@[simp] theorem withRf_outputs (v : List Host.Cell) (s : State) : (withRf v s).outputs = s.outputs := rfl
@[simp] theorem withRf_midway (v : List Host.Cell) (s : State) : (withRf v s).midway = s.midway := rfl
@[simp] theorem withRf_tick (v : List Host.Cell) (s : State) : (withRf v s).tick = s.tick := rfl
@[simp] theorem withRf_product (v : List Host.Cell) (s : State) : (withRf v s).product = s.product := rfl

@[simp] theorem withPm_pc (v : List Host.Cell) (s : State) : (withPm v s).pc = s.pc := rfl
@[simp] theorem withPm_flags (v : List Host.Cell) (s : State) : (withPm v s).flags = s.flags := rfl
@[simp] theorem withPm_rp (v : List Host.Cell) (s : State) : (withPm v s).rp = s.rp := rfl
@[simp] theorem withPm_sph (v : List Host.Cell) (s : State) : (withPm v s).sph = s.sph := rfl
@[simp] theorem withPm_spl (v : List Host.Cell) (s : State) : (withPm v s).spl = s.spl := rfl
@[simp] theorem withPm_irqctl (v : List Host.Cell) (s : State) : (withPm v s).irqctl = s.irqctl := rfl
@[simp] theorem withPm_rf (v : List Host.Cell) (s : State) : (withPm v s).rf = s.rf := rfl
@[simp] theorem withPm_pm (v : List Host.Cell) (s : State) : (withPm v s).pm = v := rfl
@[simp] theorem withPm_dm (v : List Host.Cell) (s : State) : (withPm v s).dm = s.dm := rfl
@[simp] theorem withPm_atm (v : List Host.Cell) (s : State) : (withPm v s).atm = s.atm := rfl
@[simp] theorem withPm_mode (v : List Host.Cell) (s : State) : (withPm v s).mode = s.mode := rfl
@[simp] theorem withPm_wdtOn (v : List Host.Cell) (s : State) : (withPm v s).wdtOn = s.wdtOn := rfl
@[simp] theorem withPm_stale (v : List Host.Cell) (s : State) : (withPm v s).stale = s.stale := rfl
@[simp] theorem withPm_wdtStart (v : List Host.Cell) (s : State) : (withPm v s).wdtStart = s.wdtStart := rfl
@[simp] theorem withPm_inputs (v : List Host.Cell) (s : State) : (withPm v s).inputs = s.inputs := rfl
@[simp] theorem withPm_outputs (v : List Host.Cell) (s : State) : (withPm v s).outputs = s.outputs := rfl
@[simp] theorem withPm_midway (v : List Host.Cell) (s : State) : (withPm v s).midway = s.midway := rfl
@[simp] theorem withPm_tick (v : List Host.Cell) (s : State) : (withPm v s).tick = s.tick := rfl
@[simp] theorem withPm_product (v : List Host.Cell) (s : State) : (withPm v s).product = s.product := rfl

@[simp] theorem withDm_pc (v : List Host.Cell) (s : State) : (withDm v s).pc = s.pc := rfl
@[simp] theorem withDm_flags (v : List Host.Cell) (s : State) : (withDm v s).flags = s.flags := rfl
@[simp] theorem withDm_rp (v : List Host.Cell) (s : State) : (withDm v s).rp = s.rp := rfl
@[simp] theorem withDm_sph (v : List Host.Cell) (s : State) : (withDm v s).sph = s.sph := rfl
@[simp] theorem withDm_spl (v : List Host.Cell) (s : State) : (withDm v s).spl = s.spl := rfl
@[simp] theorem withDm_irqctl (v : List Host.Cell) (s : State) : (withDm v s).irqctl = s.irqctl := rfl
@[simp] theorem withDm_rf (v : List Host.Cell) (s : State) : (withDm v s).rf = s.rf := rfl
@[simp] theorem withDm_pm (v : List Host.Cell) (s : State) : (withDm v s).pm = s.pm := rfl
@[simp] theorem withDm_dm (v : List Host.Cell) (s : State) : (withDm v s).dm = v := rfl
@[simp] theorem withDm_atm (v : List Host.Cell) (s : State) : (withDm v s).atm = s.atm := rfl
@[simp] theorem withDm_mode (v : List Host.Cell) (s : State) : (withDm v s).mode = s.mode := rfl
@[simp] theorem withDm_wdtOn (v : List Host.Cell) (s : State) : (withDm v s).wdtOn = s.wdtOn := rfl
@[simp] theorem withDm_stale (v : List Host.Cell) (s : State) : (withDm v s).stale = s.stale := rfl
@[simp] theorem withDm_wdtStart (v : List Host.Cell) (s : State) : (withDm v s).wdtStart = s.wdtStart := rfl
@[simp] theorem withDm_inputs (v : List Host.Cell) (s : State) : (withDm v s).inputs = s.inputs := rfl
@[simp] theorem withDm_outputs (v : List Host.Cell) (s : State) : (withDm v s).outputs = s.outputs := rfl
@[simp] theorem withDm_midway (v : List Host.Cell) (s : State) : (withDm v s).midway = s.midway := rfl
@[simp] theorem withDm_tick (v : List Host.Cell) (s : State) : (withDm v s).tick = s.tick := rfl
@[simp] theorem withDm_product (v : List Host.Cell) (s : State) : (withDm v s).product = s.product := rfl

@[simp] theorem withAtm_pc (v : Nat) (s : State) : (withAtm v s).pc = s.pc := rfl
@[simp] theorem withAtm_flags (v : Nat) (s : State) : (withAtm v s).flags = s.flags := rfl
@[simp] theorem withAtm_rp (v : Nat) (s : State) : (withAtm v s).rp = s.rp := rfl
@[simp] theorem withAtm_sph (v : Nat) (s : State) : (withAtm v s).sph = s.sph := rfl
@[simp] theorem withAtm_spl (v : Nat) (s : State) : (withAtm v s).spl = s.spl := rfl
@[simp] theorem withAtm_irqctl (v : Nat) (s : State) : (withAtm v s).irqctl = s.irqctl := rfl
@[simp] theorem withAtm_rf (v : Nat) (s : State) : (withAtm v s).rf = s.rf := rfl
@[simp] theorem withAtm_pm (v : Nat) (s : State) : (withAtm v s).pm = s.pm := rfl
@[simp] theorem withAtm_dm (v : Nat) (s : State) : (withAtm v s).dm = s.dm := rfl
@[simp] theorem withAtm_atm (v : Nat) (s : State) : (withAtm v s).atm = v := rfl
@[simp] theorem withAtm_mode (v : Nat) (s : State) : (withAtm v s).mode = s.mode := rfl
@[simp] theorem withAtm_wdtOn (v : Nat) (s : State) : (withAtm v s).wdtOn = s.wdtOn := rfl
@[simp] theorem withAtm_stale (v : Nat) (s : State) : (withAtm v s).stale = s.stale := rfl
@[simp] theorem withAtm_wdtStart (v : Nat) (s : State) : (withAtm v s).wdtStart = s.wdtStart := rfl
@[simp] theorem withAtm_inputs (v : Nat) (s : State) : (withAtm v s).inputs = s.inputs := rfl
@[simp] theorem withAtm_outputs (v : Nat) (s : State) : (withAtm v s).outputs = s.outputs := rfl
@[simp] theorem withAtm_midway (v : Nat) (s : State) : (withAtm v s).midway = s.midway := rfl
@[simp] theorem withAtm_tick (v : Nat) (s : State) : (withAtm v s).tick = s.tick := rfl
@[simp] theorem withAtm_product (v : Nat) (s : State) : (withAtm v s).product = s.product := rfl

@[simp] theorem withMode_pc (v : Mode) (s : State) : (withMode v s).pc = s.pc := rfl
@[simp] theorem withMode_flags (v : Mode) (s : State) : (withMode v s).flags = s.flags := rfl
@[simp] theorem withMode_rp (v : Mode) (s : State) : (withMode v s).rp = s.rp := rfl
@[simp] theorem withMode_sph (v : Mode) (s : State) : (withMode v s).sph = s.sph := rfl
@[simp] theorem withMode_spl (v : Mode) (s : State) : (withMode v s).spl = s.spl := rfl
@[simp] theorem withMode_irqctl (v : Mode) (s : State) : (withMode v s).irqctl = s.irqctl := rfl
@[simp] theorem withMode_rf (v : Mode) (s : State) : (withMode v s).rf = s.rf := rfl
@[simp] theorem withMode_pm (v : Mode) (s : State) : (withMode v s).pm = s.pm := rfl
@[simp] theorem withMode_dm (v : Mode) (s : State) : (withMode v s).dm = s.dm := rfl
@[simp] theorem withMode_atm (v : Mode) (s : State) : (withMode v s).atm = s.atm := rfl
@[simp] theorem withMode_mode (v : Mode) (s : State) : (withMode v s).mode = v := rfl
@[simp] theorem withMode_wdtOn (v : Mode) (s : State) : (withMode v s).wdtOn = s.wdtOn := rfl
@[simp] theorem withMode_stale (v : Mode) (s : State) : (withMode v s).stale = s.stale := rfl
@[simp] theorem withMode_wdtStart (v : Mode) (s : State) : (withMode v s).wdtStart = s.wdtStart := rfl
@[simp] theorem withMode_inputs (v : Mode) (s : State) : (withMode v s).inputs = s.inputs := rfl
@[simp] theorem withMode_outputs (v : Mode) (s : State) : (withMode v s).outputs = s.outputs := rfl
@[simp] theorem withMode_midway (v : Mode) (s : State) : (withMode v s).midway = s.midway := rfl
@[simp] theorem withMode_tick (v : Mode) (s : State) : (withMode v s).tick = s.tick := rfl
@[simp] theorem withMode_product (v : Mode) (s : State) : (withMode v s).product = s.product := rfl

@[simp] theorem withWdtOn_pc (v : Bool) (s : State) : (withWdtOn v s).pc = s.pc := rfl
@[simp] theorem withWdtOn_flags (v : Bool) (s : State) : (withWdtOn v s).flags = s.flags := rfl
@[simp] theorem withWdtOn_rp (v : Bool) (s : State) : (withWdtOn v s).rp = s.rp := rfl
@[simp] theorem withWdtOn_sph (v : Bool) (s : State) : (withWdtOn v s).sph = s.sph := rfl
@[simp] theorem withWdtOn_spl (v : Bool) (s : State) : (withWdtOn v s).spl = s.spl := rfl
@[simp] theorem withWdtOn_irqctl (v : Bool) (s : State) : (withWdtOn v s).irqctl = s.irqctl := rfl
@[simp] theorem withWdtOn_rf (v : Bool) (s : State) : (withWdtOn v s).rf = s.rf := rfl
@[simp] theorem withWdtOn_pm (v : Bool) (s : State) : (withWdtOn v s).pm = s.pm := rfl
@[simp] theorem withWdtOn_dm (v : Bool) (s : State) : (withWdtOn v s).dm = s.dm := rfl
@[simp] theorem withWdtOn_atm (v : Bool) (s : State) : (withWdtOn v s).atm = s.atm := rfl
@[simp] theorem withWdtOn_mode (v : Bool) (s : State) : (withWdtOn v s).mode = s.mode := rfl
@[simp] theorem withWdtOn_wdtOn (v : Bool) (s : State) : (withWdtOn v s).wdtOn = v := rfl
@[simp] theorem withWdtOn_stale (v : Bool) (s : State) : (withWdtOn v s).stale = s.stale := rfl
@[simp] theorem withWdtOn_wdtStart (v : Bool) (s : State) : (withWdtOn v s).wdtStart = s.wdtStart := rfl
@[simp] theorem withWdtOn_inputs (v : Bool) (s : State) : (withWdtOn v s).inputs = s.inputs := rfl
@[simp] theorem withWdtOn_outputs (v : Bool) (s : State) : (withWdtOn v s).outputs = s.outputs := rfl
@[simp] theorem withWdtOn_midway (v : Bool) (s : State) : (withWdtOn v s).midway = s.midway := rfl
@[simp] theorem withWdtOn_tick (v : Bool) (s : State) : (withWdtOn v s).tick = s.tick := rfl
@[simp] theorem withWdtOn_product (v : Bool) (s : State) : (withWdtOn v s).product = s.product := rfl

@[simp] theorem withStale_pc (v : List Host.Cell) (s : State) : (withStale v s).pc = s.pc := rfl
@[simp] theorem withStale_flags (v : List Host.Cell) (s : State) : (withStale v s).flags = s.flags := rfl
@[simp] theorem withStale_rp (v : List Host.Cell) (s : State) : (withStale v s).rp = s.rp := rfl
@[simp] theorem withStale_sph (v : List Host.Cell) (s : State) : (withStale v s).sph = s.sph := rfl
@[simp] theorem withStale_spl (v : List Host.Cell) (s : State) : (withStale v s).spl = s.spl := rfl
@[simp] theorem withStale_irqctl (v : List Host.Cell) (s : State) : (withStale v s).irqctl = s.irqctl := rfl
@[simp] theorem withStale_rf (v : List Host.Cell) (s : State) : (withStale v s).rf = s.rf := rfl
@[simp] theorem withStale_pm (v : List Host.Cell) (s : State) : (withStale v s).pm = s.pm := rfl
@[simp] theorem withStale_dm (v : List Host.Cell) (s : State) : (withStale v s).dm = s.dm := rfl
@[simp] theorem withStale_atm (v : List Host.Cell) (s : State) : (withStale v s).atm = s.atm := rfl
@[simp] theorem withStale_mode (v : List Host.Cell) (s : State) : (withStale v s).mode = s.mode := rfl
@[simp] theorem withStale_wdtOn (v : List Host.Cell) (s : State) : (withStale v s).wdtOn = s.wdtOn := rfl
@[simp] theorem withStale_stale (v : List Host.Cell) (s : State) : (withStale v s).stale = v := rfl
@[simp] theorem withStale_wdtStart (v : List Host.Cell) (s : State) : (withStale v s).wdtStart = s.wdtStart := rfl
@[simp] theorem withStale_inputs (v : List Host.Cell) (s : State) : (withStale v s).inputs = s.inputs := rfl
@[simp] theorem withStale_outputs (v : List Host.Cell) (s : State) : (withStale v s).outputs = s.outputs := rfl
@[simp] theorem withStale_midway (v : List Host.Cell) (s : State) : (withStale v s).midway = s.midway := rfl
@[simp] theorem withStale_tick (v : List Host.Cell) (s : State) : (withStale v s).tick = s.tick := rfl
@[simp] theorem withStale_product (v : List Host.Cell) (s : State) : (withStale v s).product = s.product := rfl

@[simp] theorem withWdtStart_pc (v : Nat) (s : State) : (withWdtStart v s).pc = s.pc := rfl
@[simp] theorem withWdtStart_flags (v : Nat) (s : State) : (withWdtStart v s).flags = s.flags := rfl
@[simp] theorem withWdtStart_rp (v : Nat) (s : State) : (withWdtStart v s).rp = s.rp := rfl
@[simp] theorem withWdtStart_sph (v : Nat) (s : State) : (withWdtStart v s).sph = s.sph := rfl
@[simp] theorem withWdtStart_spl (v : Nat) (s : State) : (withWdtStart v s).spl = s.spl := rfl
@[simp] theorem withWdtStart_irqctl (v : Nat) (s : State) : (withWdtStart v s).irqctl = s.irqctl := rfl
@[simp] theorem withWdtStart_rf (v : Nat) (s : State) : (withWdtStart v s).rf = s.rf := rfl
@[simp] theorem withWdtStart_pm (v : Nat) (s : State) : (withWdtStart v s).pm = s.pm := rfl
@[simp] theorem withWdtStart_dm (v : Nat) (s : State) : (withWdtStart v s).dm = s.dm := rfl
@[simp] theorem withWdtStart_atm (v : Nat) (s : State) : (withWdtStart v s).atm = s.atm := rfl
@[simp] theorem withWdtStart_mode (v : Nat) (s : State) : (withWdtStart v s).mode = s.mode := rfl
@[simp] theorem withWdtStart_wdtOn (v : Nat) (s : State) : (withWdtStart v s).wdtOn = s.wdtOn := rfl
@[simp] theorem withWdtStart_stale (v : Nat) (s : State) : (withWdtStart v s).stale = s.stale := rfl
@[simp] theorem withWdtStart_wdtStart (v : Nat) (s : State) : (withWdtStart v s).wdtStart = v := rfl
@[simp] theorem withWdtStart_inputs (v : Nat) (s : State) : (withWdtStart v s).inputs = s.inputs := rfl
@[simp] theorem withWdtStart_outputs (v : Nat) (s : State) : (withWdtStart v s).outputs = s.outputs := rfl
@[simp] theorem withWdtStart_midway (v : Nat) (s : State) : (withWdtStart v s).midway = s.midway := rfl
@[simp] theorem withWdtStart_tick (v : Nat) (s : State) : (withWdtStart v s).tick = s.tick := rfl
@[simp] theorem withWdtStart_product (v : Nat) (s : State) : (withWdtStart v s).product = s.product := rfl

@[simp] theorem withInputs_pc (v : List Input) (s : State) : (withInputs v s).pc = s.pc := rfl
@[simp] theorem withInputs_flags (v : List Input) (s : State) : (withInputs v s).flags = s.flags := rfl
@[simp] theorem withInputs_rp (v : List Input) (s : State) : (withInputs v s).rp = s.rp := rfl
@[simp] theorem withInputs_sph (v : List Input) (s : State) : (withInputs v s).sph = s.sph := rfl
@[simp] theorem withInputs_spl (v : List Input) (s : State) : (withInputs v s).spl = s.spl := rfl
@[simp] theorem withInputs_irqctl (v : List Input) (s : State) : (withInputs v s).irqctl = s.irqctl := rfl
@[simp] theorem withInputs_rf (v : List Input) (s : State) : (withInputs v s).rf = s.rf := rfl
@[simp] theorem withInputs_pm (v : List Input) (s : State) : (withInputs v s).pm = s.pm := rfl
@[simp] theorem withInputs_dm (v : List Input) (s : State) : (withInputs v s).dm = s.dm := rfl
@[simp] theorem withInputs_atm (v : List Input) (s : State) : (withInputs v s).atm = s.atm := rfl
@[simp] theorem withInputs_mode (v : List Input) (s : State) : (withInputs v s).mode = s.mode := rfl
@[simp] theorem withInputs_wdtOn (v : List Input) (s : State) : (withInputs v s).wdtOn = s.wdtOn := rfl
@[simp] theorem withInputs_stale (v : List Input) (s : State) : (withInputs v s).stale = s.stale := rfl
@[simp] theorem withInputs_wdtStart (v : List Input) (s : State) : (withInputs v s).wdtStart = s.wdtStart := rfl
@[simp] theorem withInputs_inputs (v : List Input) (s : State) : (withInputs v s).inputs = v := rfl
@[simp] theorem withInputs_outputs (v : List Input) (s : State) : (withInputs v s).outputs = s.outputs := rfl
@[simp] theorem withInputs_midway (v : List Input) (s : State) : (withInputs v s).midway = s.midway := rfl
@[simp] theorem withInputs_tick (v : List Input) (s : State) : (withInputs v s).tick = s.tick := rfl
@[simp] theorem withInputs_product (v : List Input) (s : State) : (withInputs v s).product = s.product := rfl

@[simp] theorem withOutputs_pc (v : List Output) (s : State) : (withOutputs v s).pc = s.pc := rfl
@[simp] theorem withOutputs_flags (v : List Output) (s : State) : (withOutputs v s).flags = s.flags := rfl
@[simp] theorem withOutputs_rp (v : List Output) (s : State) : (withOutputs v s).rp = s.rp := rfl
@[simp] theorem withOutputs_sph (v : List Output) (s : State) : (withOutputs v s).sph = s.sph := rfl
@[simp] theorem withOutputs_spl (v : List Output) (s : State) : (withOutputs v s).spl = s.spl := rfl
@[simp] theorem withOutputs_irqctl (v : List Output) (s : State) : (withOutputs v s).irqctl = s.irqctl := rfl
@[simp] theorem withOutputs_rf (v : List Output) (s : State) : (withOutputs v s).rf = s.rf := rfl
@[simp] theorem withOutputs_pm (v : List Output) (s : State) : (withOutputs v s).pm = s.pm := rfl
@[simp] theorem withOutputs_dm (v : List Output) (s : State) : (withOutputs v s).dm = s.dm := rfl
@[simp] theorem withOutputs_atm (v : List Output) (s : State) : (withOutputs v s).atm = s.atm := rfl
@[simp] theorem withOutputs_mode (v : List Output) (s : State) : (withOutputs v s).mode = s.mode := rfl
@[simp] theorem withOutputs_wdtOn (v : List Output) (s : State) : (withOutputs v s).wdtOn = s.wdtOn := rfl
@[simp] theorem withOutputs_stale (v : List Output) (s : State) : (withOutputs v s).stale = s.stale := rfl
@[simp] theorem withOutputs_wdtStart (v : List Output) (s : State) : (withOutputs v s).wdtStart = s.wdtStart := rfl
@[simp] theorem withOutputs_inputs (v : List Output) (s : State) : (withOutputs v s).inputs = s.inputs := rfl
@[simp] theorem withOutputs_outputs (v : List Output) (s : State) : (withOutputs v s).outputs = v := rfl
@[simp] theorem withOutputs_midway (v : List Output) (s : State) : (withOutputs v s).midway = s.midway := rfl
@[simp] theorem withOutputs_tick (v : List Output) (s : State) : (withOutputs v s).tick = s.tick := rfl
@[simp] theorem withOutputs_product (v : List Output) (s : State) : (withOutputs v s).product = s.product := rfl

@[simp] theorem withMidway_pc (v : List (List Move)) (s : State) : (withMidway v s).pc = s.pc := rfl
@[simp] theorem withMidway_flags (v : List (List Move)) (s : State) : (withMidway v s).flags = s.flags := rfl
@[simp] theorem withMidway_rp (v : List (List Move)) (s : State) : (withMidway v s).rp = s.rp := rfl
@[simp] theorem withMidway_sph (v : List (List Move)) (s : State) : (withMidway v s).sph = s.sph := rfl
@[simp] theorem withMidway_spl (v : List (List Move)) (s : State) : (withMidway v s).spl = s.spl := rfl
@[simp] theorem withMidway_irqctl (v : List (List Move)) (s : State) : (withMidway v s).irqctl = s.irqctl := rfl
@[simp] theorem withMidway_rf (v : List (List Move)) (s : State) : (withMidway v s).rf = s.rf := rfl
@[simp] theorem withMidway_pm (v : List (List Move)) (s : State) : (withMidway v s).pm = s.pm := rfl
@[simp] theorem withMidway_dm (v : List (List Move)) (s : State) : (withMidway v s).dm = s.dm := rfl
@[simp] theorem withMidway_atm (v : List (List Move)) (s : State) : (withMidway v s).atm = s.atm := rfl
@[simp] theorem withMidway_mode (v : List (List Move)) (s : State) : (withMidway v s).mode = s.mode := rfl
@[simp] theorem withMidway_wdtOn (v : List (List Move)) (s : State) : (withMidway v s).wdtOn = s.wdtOn := rfl
@[simp] theorem withMidway_stale (v : List (List Move)) (s : State) : (withMidway v s).stale = s.stale := rfl
@[simp] theorem withMidway_wdtStart (v : List (List Move)) (s : State) : (withMidway v s).wdtStart = s.wdtStart := rfl
@[simp] theorem withMidway_inputs (v : List (List Move)) (s : State) : (withMidway v s).inputs = s.inputs := rfl
@[simp] theorem withMidway_outputs (v : List (List Move)) (s : State) : (withMidway v s).outputs = s.outputs := rfl
@[simp] theorem withMidway_midway (v : List (List Move)) (s : State) : (withMidway v s).midway = v := rfl
@[simp] theorem withMidway_tick (v : List (List Move)) (s : State) : (withMidway v s).tick = s.tick := rfl
@[simp] theorem withMidway_product (v : List (List Move)) (s : State) : (withMidway v s).product = s.product := rfl

@[simp] theorem withTick_pc (v : Nat) (s : State) : (withTick v s).pc = s.pc := rfl
@[simp] theorem withTick_flags (v : Nat) (s : State) : (withTick v s).flags = s.flags := rfl
@[simp] theorem withTick_rp (v : Nat) (s : State) : (withTick v s).rp = s.rp := rfl
@[simp] theorem withTick_sph (v : Nat) (s : State) : (withTick v s).sph = s.sph := rfl
@[simp] theorem withTick_spl (v : Nat) (s : State) : (withTick v s).spl = s.spl := rfl
@[simp] theorem withTick_irqctl (v : Nat) (s : State) : (withTick v s).irqctl = s.irqctl := rfl
@[simp] theorem withTick_rf (v : Nat) (s : State) : (withTick v s).rf = s.rf := rfl
@[simp] theorem withTick_pm (v : Nat) (s : State) : (withTick v s).pm = s.pm := rfl
@[simp] theorem withTick_dm (v : Nat) (s : State) : (withTick v s).dm = s.dm := rfl
@[simp] theorem withTick_atm (v : Nat) (s : State) : (withTick v s).atm = s.atm := rfl
@[simp] theorem withTick_mode (v : Nat) (s : State) : (withTick v s).mode = s.mode := rfl
@[simp] theorem withTick_wdtOn (v : Nat) (s : State) : (withTick v s).wdtOn = s.wdtOn := rfl
@[simp] theorem withTick_stale (v : Nat) (s : State) : (withTick v s).stale = s.stale := rfl
@[simp] theorem withTick_wdtStart (v : Nat) (s : State) : (withTick v s).wdtStart = s.wdtStart := rfl
@[simp] theorem withTick_inputs (v : Nat) (s : State) : (withTick v s).inputs = s.inputs := rfl
@[simp] theorem withTick_outputs (v : Nat) (s : State) : (withTick v s).outputs = s.outputs := rfl
@[simp] theorem withTick_midway (v : Nat) (s : State) : (withTick v s).midway = s.midway := rfl
@[simp] theorem withTick_tick (v : Nat) (s : State) : (withTick v s).tick = v := rfl
@[simp] theorem withTick_product (v : Nat) (s : State) : (withTick v s).product = s.product := rfl

end Sys2Proof.Machine
end

