-- ==== Sys2Proof/Laws/Ops.lean ====
section
/-!
SUPPORT. What each shared operation does, said once: when it answers, and what. The lemmas named `<operation>_ok` say
exactly when the operation answers a value and which, where no outside agent moves in the middle of the instruction
(`s.midway = []`); a proof cites them and never unfolds the operation. The lemmas named `<operation>_undisturbed` say
what it is then, refusals included.
-/

namespace Sys2Proof.Machine

/-! ### Sequencing -/

/-- Two operations in a row answer exactly when each does. -/
theorem bind_ok {α β : Type} (x : Res α) (f : α → Res β) (b : β) :
    (x >>= f) = .ok b ↔ ∃ a, x = .ok a ∧ f a = .ok b := by
  cases x with
  | error e => simp [bind, Except.bind]
  | ok a => simp [bind, Except.bind]

/-- An instruction over a shared operation goes on where the operation answers, and where a Reset ends it. -/
theorem finish_next (r : Res State) (t : State) :
    finish r = .next t ↔ r = .ok t ∨ ∃ s, r = .error (.reset s) ∧ t = resetAgain s := by
  rcases r with (_ | _) | _ <;> simp [finish, eq_comm]

theorem finish_ok (t : State) : finish (.ok t) = .next t := rfl

theorem finish_refuse (r : Refusal) : finish (refuse r) = .refused r := rfl

/-- An access that hands on the state it was given is its value with that state. -/
theorem eq_map_of_still {α : Type} (x : Res (α × State)) (s : State) (h : ∀ a t, x = .ok (a, t) → t = s) :
    x = (x.map Prod.fst).map (·, s) := by
  rcases x with _ | ⟨a, t⟩
  · rfl
  · rw [h a t rfl]; rfl

theorem map_still_ok {α : Type} (y : Res α) (s t : State) (a : α) :
    y.map (·, s) = .ok (a, t) ↔ y = .ok a ∧ t = s := by
  cases y <;> simp [Except.map, eq_comm]

/-- Where no outside agent moves in the middle of the instruction, nothing comes before a byte access. -/
theorem gap_undisturbed (s : State) (h : s.midway = []) : gap s = .ok s := by simp [gap, h]

theorem lowFirst_undisturbed (k : Nat) (s : State) (h : s.midway = []) : lowFirst k s = false := by
  simp [lowFirst, h]

/-! ### The Stack Pointer -/

theorem stackPointer_setStackPointer (v : Addr) (s : State) : stackPointer (setStackPointer v s) = v := by
  simp only [stackPointer, setStackPointer, withSpl_sph, withSph_sph, withSpl_spl]
  ext i hi
  simp only [BitVec.getElem_append, BitVec.getElem_extractLsb', BitVec.getLsbD_append,
    BitVec.getLsbD_extractLsb']
  split
  · simp [BitVec.getLsbD_eq_getElem hi]
  · simp only [Nat.zero_add]
    have h4 : i - 8 < 4 := by omega
    simp only [h4, decide_true, Bool.true_and, if_true]
    have : 8 + (i - 8) = i := by omega
    rw [this, BitVec.getLsbD_eq_getElem hi]

/-- Only the low four bits of SPH count. -/
theorem stackPointer_toNat (s : State) : (stackPointer s).toNat = s.sph.toNat % 16 * 256 + s.spl.toNat := by
  have h := s.spl.isLt
  simp only [stackPointer, BitVec.toNat_append, BitVec.extractLsb'_toNat, Nat.shiftRight_zero]
  rw [Nat.shiftLeft_eq, Nat.mul_comm, Nat.two_pow_add_eq_or_of_lt h]

/-! ### The Register File -/

theorem accessRight_of_product {s t : State} (h : t.product = s.product) (a : Addr) :
    accessRight a t = accessRight a s := by simp [accessRight, h]

theorem available_of_product {s t : State} (h : t.product = s.product) (a : Addr) :
    available a t = available a s := by simp [available, h]

/-- A register access answers its value unless the register is Write-Only. -/
theorem accessRegister_undisturbed (k : Nat) (a : Addr) (s : State) (h : s.midway = []) :
    accessRegister k a s =
      if accessRight a s = .writeOnly then refuse (.readOfWriteOnly a) else .ok (registerValue k a s, s) := by
  unfold accessRegister
  rw [gap_undisturbed s h]
  rfl

theorem accessRegister_ok (k : Nat) (a : Addr) (s t : State) (v : Byte) (h : s.midway = []) :
    accessRegister k a s = .ok (v, t) ↔ accessRight a s ≠ .writeOnly ∧ v = registerValue k a s ∧ t = s := by
  rw [accessRegister_undisturbed k a s h]
  split <;> simp_all [refuse, eq_comm]

theorem readRegister_undisturbed (k : Nat) (a : Addr) (s : State) (h : s.midway = []) :
    readRegister k a s =
      if accessRight a s = .writeOnly then refuse (.readOfWriteOnly a) else .ok (registerValue k a s) := by
  unfold readRegister
  rw [accessRegister_undisturbed k a s h]
  split <;> rfl

/-- A read answers unless the register is Write-Only. -/
theorem readRegister_ok (k : Nat) (a : Addr) (s : State) (v : Byte) (h : s.midway = []) :
    readRegister k a s = .ok v ↔ accessRight a s ≠ .writeOnly ∧ v = registerValue k a s := by
  rw [readRegister_undisturbed k a s h]
  split <;> simp_all [refuse, eq_comm]

theorem writeRegister_undisturbed (a : Addr) (v : Byte) (s : State) (h : s.midway = []) :
    writeRegister a v s =
      if accessRight a s = .readOnly then refuse (.writeOfReadOnly a) else .ok (storeRegister a v s) := by
  unfold writeRegister
  rw [gap_undisturbed s h]
  rfl

/-- A write answers unless the register is Read-Only. -/
theorem writeRegister_ok (a : Addr) (v : Byte) (s t : State) (h : s.midway = []) :
    writeRegister a v s = .ok t ↔ accessRight a s ≠ .readOnly ∧ t = storeRegister a v s := by
  rw [writeRegister_undisturbed a v s h]
  split <;> simp_all [refuse, eq_comm]

theorem accessMemory_undisturbed (fetch : Word → State → Byte) (a : Word) (s : State) (h : s.midway = []) :
    accessMemory fetch a s = .ok (fetch a s, s) := by
  unfold accessMemory
  rw [gap_undisturbed s h]
  rfl

theorem writeMemory_undisturbed (store : Word → Byte → State → State) (a : Word) (v : Byte) (s : State)
    (h : s.midway = []) : writeMemory store a v s = .ok (store a v s) := by
  unfold writeMemory
  rw [gap_undisturbed s h]
  rfl

theorem accessVector_undisturbed (a : Word) (s : State) (h : s.midway = []) :
    accessVector a s = .ok (programWord a s, s) := by
  unfold accessVector
  rw [accessMemory_undisturbed _ _ s h]
  simp only [bind, Except.bind]
  rw [accessMemory_undisturbed _ _ s h]
  rfl

theorem storeRegister_induct {P : State → Prop} (a : Addr) (v : Byte) (s : State)
    (same : P s) (flags : P (withFlags v s)) (rp : P (withRp v s)) (sph : P (withSph v s)) (spl : P (withSpl v s))
    (irqctl : P (withIrqctl v s)) (rf : ∀ w, P (withRf (writeCell rfBlank s.rf a.toNat w) s)) :
    P (storeRegister a v s) := by
  unfold storeRegister
  split
  · exact flags
  split
  · exact rp
  split
  · exact sph
  split
  · exact spl
  split
  · exact irqctl
  split
  · exact same
  split
  · exact rf _
  · exact rf _

@[simp] theorem storeRegister_pc (a : Addr) (v : Byte) (s : State) : (storeRegister a v s).pc = s.pc :=
  storeRegister_induct (P := fun t => t.pc = s.pc) a v s rfl rfl rfl rfl rfl rfl fun _ => rfl
@[simp] theorem storeRegister_pm (a : Addr) (v : Byte) (s : State) : (storeRegister a v s).pm = s.pm :=
  storeRegister_induct (P := fun t => t.pm = s.pm) a v s rfl rfl rfl rfl rfl rfl fun _ => rfl
@[simp] theorem storeRegister_dm (a : Addr) (v : Byte) (s : State) : (storeRegister a v s).dm = s.dm :=
  storeRegister_induct (P := fun t => t.dm = s.dm) a v s rfl rfl rfl rfl rfl rfl fun _ => rfl
@[simp] theorem storeRegister_atm (a : Addr) (v : Byte) (s : State) : (storeRegister a v s).atm = s.atm :=
  storeRegister_induct (P := fun t => t.atm = s.atm) a v s rfl rfl rfl rfl rfl rfl fun _ => rfl
@[simp] theorem storeRegister_mode (a : Addr) (v : Byte) (s : State) : (storeRegister a v s).mode = s.mode :=
  storeRegister_induct (P := fun t => t.mode = s.mode) a v s rfl rfl rfl rfl rfl rfl fun _ => rfl
@[simp] theorem storeRegister_wdtOn (a : Addr) (v : Byte) (s : State) : (storeRegister a v s).wdtOn = s.wdtOn :=
  storeRegister_induct (P := fun t => t.wdtOn = s.wdtOn) a v s rfl rfl rfl rfl rfl rfl fun _ => rfl
@[simp] theorem storeRegister_stale (a : Addr) (v : Byte) (s : State) : (storeRegister a v s).stale = s.stale :=
  storeRegister_induct (P := fun t => t.stale = s.stale) a v s rfl rfl rfl rfl rfl rfl fun _ => rfl
@[simp] theorem storeRegister_inputs (a : Addr) (v : Byte) (s : State) :
    (storeRegister a v s).inputs = s.inputs :=
  storeRegister_induct (P := fun t => t.inputs = s.inputs) a v s rfl rfl rfl rfl rfl rfl fun _ => rfl
@[simp] theorem storeRegister_wdtStart (a : Addr) (v : Byte) (s : State) :
    (storeRegister a v s).wdtStart = s.wdtStart :=
  storeRegister_induct (P := fun t => t.wdtStart = s.wdtStart) a v s rfl rfl rfl rfl rfl rfl fun _ => rfl
@[simp] theorem storeRegister_outputs (a : Addr) (v : Byte) (s : State) :
    (storeRegister a v s).outputs = s.outputs :=
  storeRegister_induct (P := fun t => t.outputs = s.outputs) a v s rfl rfl rfl rfl rfl rfl fun _ => rfl
@[simp] theorem storeRegister_midway (a : Addr) (v : Byte) (s : State) :
    (storeRegister a v s).midway = s.midway :=
  storeRegister_induct (P := fun t => t.midway = s.midway) a v s rfl rfl rfl rfl rfl rfl fun _ => rfl
@[simp] theorem storeRegister_tick (a : Addr) (v : Byte) (s : State) : (storeRegister a v s).tick = s.tick :=
  storeRegister_induct (P := fun t => t.tick = s.tick) a v s rfl rfl rfl rfl rfl rfl fun _ => rfl
@[simp] theorem storeRegister_product (a : Addr) (v : Byte) (s : State) :
    (storeRegister a v s).product = s.product :=
  storeRegister_induct (P := fun t => t.product = s.product) a v s rfl rfl rfl rfl rfl rfl fun _ => rfl

/-- A write to one register leaves what every other one reads as. -/
theorem registerValue_storeRegister_other (k : Nat) (a b : Addr) (v : Byte) (s : State) (h : b ≠ a) :
    registerValue k b (storeRegister a v s) = registerValue k b s := by
  have hn : b.toNat ≠ a.toNat := fun e => h (BitVec.eq_of_toNat_eq e)
  have key : ∀ w, registerValue k b (withRf (writeCell rfBlank s.rf a.toNat w) s) = registerValue k b s := by
    intro w
    simp only [registerValue, withRf_flags, withRf_rp, withRf_sph, withRf_spl, withRf_irqctl, withRf_rf, withRf_tick,
      readCell_writeCell_other rfBlank s.rf a.toNat b.toNat w hn,
      available_of_product (withRf_product (writeCell rfBlank s.rf a.toNat w) s)]
  unfold storeRegister
  split
  · next e => subst e; simp only [registerValue, h, if_false]; rfl
  split
  · next e => subst e; simp only [registerValue, h, if_false]; rfl
  split
  · next e => subst e; simp only [registerValue, h, if_false]; rfl
  split
  · next e => subst e; simp only [registerValue, h, if_false]; rfl
  split
  · next e => subst e; simp only [registerValue, h, if_false]; rfl
  split
  · rfl
  split
  · exact key _
  · exact key _

/-- The registers with a field of their own read back what was written. -/
theorem registerValue_storeRegister_core (k : Nat) (a : Addr) (v : Byte) (s : State)
    (h : a = 0xFFC ∨ a = 0xFFD ∨ a = 0xFFE ∨ a = 0xFFF ∨ a = 0xFCF) :
    registerValue k a (storeRegister a v s) = v := by
  rcases h with h | h | h | h | h <;> subst h <;> simp [registerValue, storeRegister]

/-- A general-purpose register that exists reads back what was written. -/
theorem registerValue_storeRegister_general (k : Nat) (a : Addr) (v : Byte) (s : State)
    (hw : Memory.wf rfBlank s.rf = true) (hlt : a.toNat < 0xF00) (ha : available a s = true) :
    registerValue k a (storeRegister a v s) = v := by
  have e1 : a ≠ 0xFFC := by rintro rfl; simp at hlt
  have e2 : a ≠ 0xFFD := by rintro rfl; simp at hlt
  have e3 : a ≠ 0xFFE := by rintro rfl; simp at hlt
  have e4 : a ≠ 0xFFF := by rintro rfl; simp at hlt
  have e5 : a ≠ 0xFCF := by rintro rfl; simp at hlt
  have hp : isPlatform a = false := by
    simp only [isPlatform, Bool.and_eq_false_imp, decide_eq_true_eq]
    omega
  have ht := available_of_product (storeRegister_product a v s) a
  have hs : storeRegister a v s = withRf (writeCell rfBlank s.rf a.toNat v) s := by
    simp only [storeRegister, e1, e2, e3, e4, e5, if_false, ha, hp, Bool.not_true, Bool.false_eq_true]
  rw [hs] at ht ⊢
  simp only [registerValue, e1, e2, e3, e4, e5, if_false, ht, ha, if_true, withRf_rf]
  exact readCell_writeCell_same rfBlank s.rf a.toNat v hw

/-- Two bytes are read exactly when each can be. -/
theorem accessTwo_ok (k : Nat) (a : Addr) (s t : State) (w : Word) (h : s.midway = []) :
    accessTwo k a s = .ok (w, t) ↔ accessRight a s ≠ .writeOnly ∧ accessRight (a + 1) s ≠ .writeOnly ∧
      w = registerValue k a s ++ registerValue (k + 1) (a + 1) s ∧ t = s := by
  unfold accessTwo
  simp only [lowFirst_undisturbed k s h, Bool.false_eq_true, if_false, bind_ok]
  constructor
  · rintro ⟨⟨hi, s1⟩, h1, ⟨lo, s2⟩, h2, e⟩
    obtain ⟨r1, rfl, rfl⟩ := (accessRegister_ok k a s s1 hi h).mp h1
    obtain ⟨r2, rfl, rfl⟩ := (accessRegister_ok (k + 1) (a + 1) _ s2 lo h).mp h2
    obtain ⟨rfl, rfl⟩ := Prod.mk.inj (Except.ok.inj e)
    exact ⟨r1, r2, rfl, rfl⟩
  · rintro ⟨r1, r2, rfl, rfl⟩
    exact ⟨_, (accessRegister_ok k a t t _ h).mpr ⟨r1, rfl, rfl⟩, _,
      (accessRegister_ok (k + 1) (a + 1) t t _ h).mpr ⟨r2, rfl, rfl⟩, rfl⟩

/-- Two bytes are written exactly when each can be. -/
theorem writeTwo_ok (a : Addr) (w : Word) (s t : State) (h : s.midway = []) :
    writeTwo a w s = .ok t ↔ accessRight a s ≠ .readOnly ∧ accessRight (a + 1) s ≠ .readOnly ∧
      t = storeRegister (a + 1) (w.extractLsb' 0 8) (storeRegister a (w.extractLsb' 8 8) s) := by
  have h2 : ∀ b v, (storeRegister b v s).midway = [] := fun b v => (storeRegister_midway b v s).trans h
  have hr : accessRight (a + 1) (storeRegister a (w.extractLsb' 8 8) s) = accessRight (a + 1) s :=
    accessRight_of_product (storeRegister_product _ _ s) _
  unfold writeTwo
  simp only [lowFirst_undisturbed 12 s h, Bool.false_eq_true, if_false, bind_ok, writeRegister_ok _ _ _ _ h]
  constructor
  · rintro ⟨s1, ⟨r1, rfl⟩, e⟩
    obtain ⟨r2, rfl⟩ := (writeRegister_ok _ _ _ _ (h2 _ _)).mp e
    exact ⟨r1, hr ▸ r2, rfl⟩
  · rintro ⟨r1, r2, rfl⟩
    exact ⟨_, ⟨r1, rfl⟩, (writeRegister_ok _ _ _ _ (h2 _ _)).mpr ⟨hr.symm ▸ r2, rfl⟩⟩

theorem accessPair_ok (k : Nat) (a : Addr) (s t : State) (w : Word) (h : s.midway = []) :
    accessPair k a s = .ok (w, t) ↔ readPair k a s = .ok w ∧ t = s := by
  have e := eq_map_of_still (accessPair k a s) s fun w t hx => ((accessTwo_ok k _ s t w h).mp hx).2.2.2
  rw [e, map_still_ok]
  rfl

/-- A pair is read exactly when both its bytes can be. -/
theorem readPair_ok (k : Nat) (a : Addr) (s : State) (w : Word) (h : s.midway = []) :
    readPair k a s = .ok w ↔ accessRight (pairAddress s.product.oddPair a) s ≠ .writeOnly ∧
      accessRight (pairAddress s.product.oddPair a + 1) s ≠ .writeOnly ∧
      w = registerValue k (pairAddress s.product.oddPair a) s ++
        registerValue (k + 1) (pairAddress s.product.oddPair a + 1) s := by
  have e := (accessPair_ok k a s s w h).symm.trans (accessTwo_ok k (pairAddress s.product.oddPair a) s s w h)
  simpa using e

/-- A pair is written exactly when both its bytes can be. -/
theorem writePair_ok (a : Addr) (w : Word) (s t : State) (h : s.midway = []) :
    writePair a w s = .ok t ↔ accessRight (pairAddress s.product.oddPair a) s ≠ .readOnly ∧
      accessRight (pairAddress s.product.oddPair a + 1) s ≠ .readOnly ∧
      t = storeRegister (pairAddress s.product.oddPair a + 1) (w.extractLsb' 0 8)
        (storeRegister (pairAddress s.product.oddPair a) (w.extractLsb' 8 8) s) :=
  writeTwo_ok _ w s t h

/-! ### The stack -/

/-- A push answers exactly with the Stack Pointer above 000h, the register below it one the access goes on at, and
writable. -/
theorem push8_ok (v : Byte) (s t : State) (h : s.midway = []) :
    push8 v s = .ok t ↔ stackPointer s ≠ 0 ∧ stackGoesOn (stackPointer s - 1) s = true ∧
      accessRight (stackPointer s - 1) s ≠ .readOnly ∧
      t = storeRegister (stackPointer s - 1) v (setStackPointer (stackPointer s - 1) s) := by
  have h2 : (setStackPointer (stackPointer s - 1) s).midway = [] := h
  unfold push8
  split
  · simp_all [refuse]
  split
  · next h0 h1 =>
    rw [writeRegister_ok _ _ _ _ h2]
    simp only [ne_eq, h0, h1, not_false_eq_true, true_and]
    rfl
  · simp_all [refuse]

/-- A 16-bit push is the push of the low byte, then of the high byte. -/
theorem push16_ok (w : Word) (s t : State) :
    push16 w s = .ok t ↔ ∃ s1, push8 (w.extractLsb' 0 8) s = .ok s1 ∧ push8 (w.extractLsb' 8 8) s1 = .ok t := by
  unfold push16
  exact bind_ok _ _ _

theorem releaseByte_ok (s t : State) :
    releaseByte s = .ok t ↔ stackPointer s ≠ 0xFFF ∧ t = setStackPointer (stackPointer s + 1) s := by
  unfold releaseByte
  split <;> simp_all [refuse, eq_comm]

theorem accessStack_ok (k : Nat) (s t : State) (v : Byte) (h : s.midway = []) :
    accessStack k s = .ok (v, t) ↔ stackGoesOn (stackPointer s) s = true ∧
      accessRight (stackPointer s) s ≠ .writeOnly ∧ v = registerValue k (stackPointer s) s ∧ t = s := by
  unfold accessStack
  split
  · next h1 => rw [accessRegister_ok _ _ _ _ _ h]; simp [h1]
  · simp_all [refuse]

/-- A pop answers the byte at the Stack Pointer, where the access must go on and be allowed, and steps the Stack
Pointer, which must be below FFFh. -/
theorem pop8_ok (k : Nat) (s t : State) (v : Byte) (h : s.midway = []) :
    pop8 k s = .ok (v, t) ↔ stackGoesOn (stackPointer s) s = true ∧ accessRight (stackPointer s) s ≠ .writeOnly ∧
      stackPointer s ≠ 0xFFF ∧ v = registerValue k (stackPointer s) s ∧ t = setStackPointer (stackPointer s + 1) s := by
  unfold pop8
  simp only [bind_ok]
  constructor
  · rintro ⟨⟨b, s1⟩, h1, s2, h2, e⟩
    obtain ⟨g, r, rfl, rfl⟩ := (accessStack_ok k s s1 b h).mp h1
    obtain ⟨n, rfl⟩ := (releaseByte_ok _ _).mp h2
    obtain ⟨rfl, rfl⟩ := Prod.mk.inj (Except.ok.inj e)
    exact ⟨g, r, n, rfl, rfl⟩
  · rintro ⟨g, r, n, rfl, rfl⟩
    exact ⟨_, (accessStack_ok k s s _ h).mpr ⟨g, r, rfl, rfl⟩, _, (releaseByte_ok _ _).mpr ⟨n, rfl⟩, rfl⟩

/-- A 16-bit pop is the pop of the high byte, then of the low byte. -/
theorem pop16_ok (k : Nat) (s t : State) (w : Word) :
    pop16 k s = .ok (w, t) ↔ ∃ hi s1 lo, pop8 k s = .ok (hi, s1) ∧ pop8 (k + 1) s1 = .ok (lo, t) ∧ w = hi ++ lo := by
  unfold pop16
  simp only [bind_ok]
  constructor
  · rintro ⟨⟨hi, s1⟩, h1, ⟨lo, s2⟩, h2, h⟩
    obtain ⟨rfl, rfl⟩ := Prod.mk.inj (Except.ok.inj h)
    exact ⟨hi, s1, lo, h1, h2, rfl⟩
  · rintro ⟨hi, s1, lo, h1, h2, rfl⟩
    exact ⟨(hi, s1), h1, (lo, t), h2, rfl⟩

/-! ### Exceptions -/

theorem push8_midway (v : Byte) (s t : State) (h : s.midway = []) (e : push8 v s = .ok t) : t.midway = [] := by
  obtain ⟨-, -, -, rfl⟩ := (push8_ok v s t h).mp e
  exact (storeRegister_midway _ _ _).trans h

theorem push16_midway (w : Word) (s t : State) (h : s.midway = []) (e : push16 w s = .ok t) : t.midway = [] := by
  obtain ⟨s1, h1, h2⟩ := (push16_ok w s t).mp e
  exact push8_midway _ _ _ (push8_midway _ _ _ h h1) h2

/-- An entry pushes the return address and FLAGS, clears the enable where it should, and branches through the vector. -/
theorem takeException_ok (ret vector : Word) (clears : Bool) (s t : State) (h : s.midway = []) :
    takeException ret vector clears s = .ok t ↔ ∃ s1 s2, push16 ret s = .ok s1 ∧ push8 s1.flags s1 = .ok s2 ∧
      t = branchTo (programWord vector (if clears then setInterruptsEnabled false s2 else s2))
        (if clears then setInterruptsEnabled false s2 else s2) := by
  have vec : ∀ s1 s2, push16 ret s = .ok s1 → push8 s1.flags s1 = .ok s2 →
      accessVector vector (if clears then setInterruptsEnabled false s2 else s2) =
        .ok (programWord vector (if clears then setInterruptsEnabled false s2 else s2),
          if clears then setInterruptsEnabled false s2 else s2) := by
    intro s1 s2 h1 h2
    apply accessVector_undisturbed
    have := push8_midway _ _ _ (push16_midway _ _ _ h h1) h2
    split <;> exact this
  unfold takeException
  simp only [bind_ok]
  constructor
  · rintro ⟨s1, h1, s2, h2, ⟨w, s3⟩, h3, e⟩
    rw [vec s1 s2 h1 h2] at h3
    obtain ⟨rfl, rfl⟩ := Prod.mk.inj (Except.ok.inj h3)
    exact ⟨s1, s2, h1, h2, (Except.ok.inj e).symm⟩
  · rintro ⟨s1, s2, h1, h2, rfl⟩
    exact ⟨s1, h1, s2, h2, _, vec s1 s2 h1 h2, rfl⟩

theorem illegalInstruction_ok (a : Word) (s t : State) :
    illegalInstruction a s = .ok t ↔
      ∃ s1, takeException a 0x0006 s.product.trapClearsIrqe s = .ok s1 ∧ t = withAtm 0 s1 := by
  unfold illegalInstruction
  simp only [bind_ok, Except.ok.injEq, eq_comm (a := t)]

theorem interruptEntry_ok (v : Word) (s t : State) :
    interruptEntry v s = .ok t ↔
      ∃ s1, takeException s.pc v s.product.irqEntryClearsIrqe (acknowledge v s) = .ok s1 ∧ t = withMode .run s1 := by
  unfold interruptEntry
  simp only [bind_ok, Except.ok.injEq, eq_comm (a := t)]

theorem returnFromException_ok (s t : State) :
    returnFromException s = .ok t ↔ ∃ f s1 w s2, pop8 0 s = .ok (f, s1) ∧ pop16 1 (withFlags f s1) = .ok (w, s2) ∧
      t = branchTo w (setInterruptsEnabled true s2) := by
  unfold returnFromException
  simp only [bind_ok]
  constructor
  · rintro ⟨⟨f, s1⟩, h1, ⟨w, s2⟩, h2, h⟩
    exact ⟨f, s1, w, s2, h1, h2, (Except.ok.inj h).symm⟩
  · rintro ⟨f, s1, w, s2, h1, h2, rfl⟩
    exact ⟨(f, s1), h1, (w, s2), h2, rfl⟩

/-! ### Operands and instruction shapes -/

/-- The place is found without a move of the state. -/
theorem accessPlace_undisturbed (k : Nat) (p : Place) (s : State) (h : s.midway = []) :
    accessPlace k p s s = (placeAddress k p s).map (·, s) := by
  apply eq_map_of_still
  intro a t e
  cases p <;> simp only [accessPlace, bind_ok, Except.ok.injEq, Prod.mk.injEq] at e
  case working => exact e.2.symm
  case short => exact e.2.symm
  case extended => exact e.2.symm
  case linear => exact e.2.symm
  case viaPair => obtain ⟨⟨w, s1⟩, h1, -, rfl⟩ := e; exact ((accessPair_ok _ _ _ _ _ h).mp h1).2
  case pairIndexed => obtain ⟨⟨w, s1⟩, h1, -, rfl⟩ := e; exact ((accessPair_ok _ _ _ _ _ h).mp h1).2
  all_goals obtain ⟨⟨v, s1⟩, h1, -, rfl⟩ := e; exact ((accessRegister_ok _ _ _ _ _ h).mp h1).2.2

theorem accessPlace_ok (k : Nat) (p : Place) (s t : State) (a : Addr) (h : s.midway = []) :
    accessPlace k p s s = .ok (a, t) ↔ placeAddress k p s = .ok a ∧ t = s := by
  rw [accessPlace_undisturbed k p s h, map_still_ok]

/-- The source is read without a move of the state. -/
theorem accessSource_undisturbed (src : Source) (s : State) (h : s.midway = []) :
    accessSource src s s = (sourceValue src s).map (·, s) := by
  apply eq_map_of_still
  intro v t e
  cases src with
  | imm w => exact (Prod.mk.inj (Except.ok.inj e)).2.symm
  | place p =>
    simp only [accessSource, bind_ok] at e
    obtain ⟨⟨a, s1⟩, h1, h2⟩ := e
    obtain ⟨-, rfl⟩ := (accessPlace_ok 4 p s s1 a h).mp h1
    exact ((accessRegister_ok _ _ _ _ _ h).mp h2).2.2

theorem accessSource_ok (src : Source) (s t : State) (v : Byte) (h : s.midway = []) :
    accessSource src s s = .ok (v, t) ↔ sourceValue src s = .ok v ∧ t = s := by
  rw [accessSource_undisturbed src s h, map_still_ok]

/-- The value of a register source is what is read at its address. -/
theorem sourceValue_place_ok (p : Place) (s : State) (v : Byte) (h : s.midway = []) :
    sourceValue (.place p) s = .ok v ↔
      ∃ a, placeAddress 4 p s = .ok a ∧ accessRight a s ≠ .writeOnly ∧ v = registerValue 6 a s := by
  have e := accessSource_ok (.place p) s s v h
  simp only [and_true] at e
  rw [← e]
  simp only [accessSource, bind_ok]
  constructor
  · rintro ⟨⟨a, s1⟩, h1, h2⟩
    obtain ⟨h3, rfl⟩ := (accessPlace_ok 4 p s s1 a h).mp h1
    obtain ⟨r, rfl, -⟩ := (accessRegister_ok _ _ _ _ _ h).mp h2
    exact ⟨a, h3, r, rfl⟩
  · rintro ⟨a, h1, r, rfl⟩
    exact ⟨(a, s), (accessPlace_ok 4 p s s a h).mpr ⟨h1, rfl⟩, (accessRegister_ok _ _ _ _ _ h).mpr ⟨r, rfl, rfl⟩⟩

theorem sourceValue_imm_ok (w : Byte) (s : State) (v : Byte) : sourceValue (.imm w) s = .ok v ↔ v = w := by
  simp [sourceValue, accessSource, Except.map, eq_comm]

theorem combine_ok (f : Byte → Byte → AluResult) (dst : Place) (src : Source) (s t : State) (h : s.midway = []) :
    combine f dst src s = .ok t ↔ ∃ da v, placeAddress 0 dst s = .ok da ∧ sourceValue src s = .ok v ∧
      accessRight da s ≠ .writeOnly ∧ accessRight da s ≠ .readOnly ∧
      t = updateFlags (f (registerValue 2 da s) v).flags (storeRegister da (f (registerValue 2 da s) v).value s) := by
  unfold combine
  simp only [bind_ok]
  constructor
  · rintro ⟨⟨da, s1⟩, h1, ⟨v, s2⟩, h2, ⟨d, s3⟩, h3, s4, h4, e⟩
    obtain ⟨r1, rfl⟩ := (accessPlace_ok _ _ _ _ _ h).mp h1
    obtain ⟨r2, rfl⟩ := (accessSource_ok _ _ _ _ h).mp h2
    obtain ⟨r3, rfl, rfl⟩ := (accessRegister_ok _ _ _ _ _ h).mp h3
    obtain ⟨r4, rfl⟩ := (writeRegister_ok _ _ _ _ h).mp h4
    exact ⟨da, v, r1, r2, r3, r4, (Except.ok.inj e).symm⟩
  · rintro ⟨da, v, h1, h2, h3, h4, rfl⟩
    exact ⟨_, (accessPlace_ok _ _ _ _ _ h).mpr ⟨h1, rfl⟩, _, (accessSource_ok _ _ _ _ h).mpr ⟨h2, rfl⟩, _,
      (accessRegister_ok _ _ _ _ _ h).mpr ⟨h3, rfl, rfl⟩, _, (writeRegister_ok _ _ _ _ h).mpr ⟨h4, rfl⟩, rfl⟩

theorem test_ok (f : Byte → Byte → AluResult) (dst : Place) (src : Source) (s t : State) (h : s.midway = []) :
    test f dst src s = .ok t ↔ ∃ da v, placeAddress 0 dst s = .ok da ∧ sourceValue src s = .ok v ∧
      accessRight da s ≠ .writeOnly ∧ t = updateFlags (f (registerValue 2 da s) v).flags s := by
  unfold test
  simp only [bind_ok]
  constructor
  · rintro ⟨⟨da, s1⟩, h1, ⟨v, s2⟩, h2, ⟨d, s3⟩, h3, e⟩
    obtain ⟨r1, rfl⟩ := (accessPlace_ok _ _ _ _ _ h).mp h1
    obtain ⟨r2, rfl⟩ := (accessSource_ok _ _ _ _ h).mp h2
    obtain ⟨r3, rfl, rfl⟩ := (accessRegister_ok _ _ _ _ _ h).mp h3
    exact ⟨da, v, r1, r2, r3, (Except.ok.inj e).symm⟩
  · rintro ⟨da, v, h1, h2, h3, rfl⟩
    exact ⟨_, (accessPlace_ok _ _ _ _ _ h).mpr ⟨h1, rfl⟩, _, (accessSource_ok _ _ _ _ h).mpr ⟨h2, rfl⟩, _,
      (accessRegister_ok _ _ _ _ _ h).mpr ⟨h3, rfl, rfl⟩, rfl⟩

theorem modify_ok (f : Byte → AluResult) (dst : Place) (s t : State) (h : s.midway = []) :
    modify f dst s = .ok t ↔ ∃ da, placeAddress 0 dst s = .ok da ∧
      accessRight da s ≠ .writeOnly ∧ accessRight da s ≠ .readOnly ∧
      t = updateFlags (f (registerValue 2 da s)).flags (storeRegister da (f (registerValue 2 da s)).value s) := by
  unfold modify
  simp only [bind_ok]
  constructor
  · rintro ⟨⟨da, s1⟩, h1, ⟨d, s2⟩, h3, s3, h4, e⟩
    obtain ⟨r1, rfl⟩ := (accessPlace_ok _ _ _ _ _ h).mp h1
    obtain ⟨r3, rfl, rfl⟩ := (accessRegister_ok _ _ _ _ _ h).mp h3
    obtain ⟨r4, rfl⟩ := (writeRegister_ok _ _ _ _ h).mp h4
    exact ⟨da, r1, r3, r4, (Except.ok.inj e).symm⟩
  · rintro ⟨da, h1, h3, h4, rfl⟩
    exact ⟨_, (accessPlace_ok _ _ _ _ _ h).mpr ⟨h1, rfl⟩, _, (accessRegister_ok _ _ _ _ _ h).mpr ⟨h3, rfl, rfl⟩, _,
      (writeRegister_ok _ _ _ _ h).mpr ⟨h4, rfl⟩, rfl⟩

theorem modifyPair_ok (f : Word → Word × FlagUpdate) (dst : Place) (s t : State) (h : s.midway = []) :
    modifyPair f dst s = .ok t ↔ ∃ da w s1, placeAddress 0 dst s = .ok da ∧ readPair 2 da s = .ok w ∧
      writePair da (f w).1 s = .ok s1 ∧ t = updateFlags (f w).2 s1 := by
  unfold modifyPair
  simp only [bind_ok]
  constructor
  · rintro ⟨⟨da, s1⟩, h1, ⟨w, s2⟩, h2, s3, h3, e⟩
    obtain ⟨r1, rfl⟩ := (accessPlace_ok _ _ _ _ _ h).mp h1
    obtain ⟨r2, rfl⟩ := (accessPair_ok _ _ _ _ _ h).mp h2
    exact ⟨da, w, s3, r1, r2, h3, (Except.ok.inj e).symm⟩
  · rintro ⟨da, w, s1, h1, h2, h3, rfl⟩
    exact ⟨_, (accessPlace_ok _ _ _ _ _ h).mpr ⟨h1, rfl⟩, _, (accessPair_ok _ _ _ _ _ h).mpr ⟨h2, rfl⟩, s1, h3, rfl⟩

theorem load_ok (dst : Place) (src : Source) (s t : State) (h : s.midway = []) :
    load dst src s = .ok t ↔ ∃ da v, placeAddress 0 dst s = .ok da ∧ sourceValue src s = .ok v ∧
      accessRight da s ≠ .readOnly ∧ t = storeRegister da v s := by
  unfold load
  simp only [bind_ok]
  constructor
  · rintro ⟨⟨da, s1⟩, h1, ⟨v, s2⟩, h2, h3⟩
    obtain ⟨r1, rfl⟩ := (accessPlace_ok _ _ _ _ _ h).mp h1
    obtain ⟨r2, rfl⟩ := (accessSource_ok _ _ _ _ h).mp h2
    exact ⟨da, v, r1, r2, (writeRegister_ok _ _ _ _ h).mp h3⟩
  · rintro ⟨da, v, h1, h2, h3⟩
    exact ⟨_, (accessPlace_ok _ _ _ _ _ h).mpr ⟨h1, rfl⟩, _, (accessSource_ok _ _ _ _ h).mpr ⟨h2, rfl⟩,
      (writeRegister_ok _ _ _ _ h).mpr h3⟩

theorem pushFrom_ok (src : Source) (s t : State) (h : s.midway = []) :
    pushFrom src s = .ok t ↔ ∃ v, sourceValue src s = .ok v ∧ push8 v s = .ok t := by
  unfold pushFrom
  simp only [bind_ok]
  constructor
  · rintro ⟨⟨v, s1⟩, h1, h2⟩
    obtain ⟨r1, rfl⟩ := (accessSource_ok _ _ _ _ h).mp h1
    exact ⟨v, r1, h2⟩
  · rintro ⟨v, h1, h2⟩
    exact ⟨_, (accessSource_ok _ _ _ _ h).mpr ⟨h1, rfl⟩, h2⟩

theorem popInto_ok (dst : Place) (s t : State) (h : s.midway = []) :
    popInto dst s = .ok t ↔ ∃ da, placeAddress 0 dst s = .ok da ∧ stackGoesOn (stackPointer s) s = true ∧
      accessRight (stackPointer s) s ≠ .writeOnly ∧ accessRight da s ≠ .readOnly ∧
      releaseByte (storeRegister da (registerValue 6 (stackPointer s) s) s) = .ok t := by
  unfold popInto
  simp only [bind_ok]
  constructor
  · rintro ⟨⟨da, s1⟩, h1, ⟨v, s2⟩, h2, s3, h3, h4⟩
    obtain ⟨r1, rfl⟩ := (accessPlace_ok _ _ _ _ _ h).mp h1
    obtain ⟨g, r2, rfl, rfl⟩ := (accessStack_ok _ _ _ _ h).mp h2
    obtain ⟨r3, rfl⟩ := (writeRegister_ok _ _ _ _ h).mp h3
    exact ⟨da, r1, g, r2, r3, h4⟩
  · rintro ⟨da, h1, g, h2, h3, h4⟩
    exact ⟨_, (accessPlace_ok _ _ _ _ _ h).mpr ⟨h1, rfl⟩, _, (accessStack_ok _ _ _ _ h).mpr ⟨g, h2, rfl, rfl⟩, _,
      (writeRegister_ok _ _ _ _ h).mpr ⟨h3, rfl⟩, h4⟩

theorem incrementPointers_ok (ra rra : Addr) (s t : State) (h : s.midway = []) :
    incrementPointers ra rra s = .ok t ↔ accessRight ra s ≠ .writeOnly ∧ accessRight ra s ≠ .readOnly ∧
      ∃ w, readPair 9 rra (storeRegister ra (registerValue 8 ra s + 1) s) = .ok w ∧
        writePair rra (w + 1) (storeRegister ra (registerValue 8 ra s + 1) s) = .ok t := by
  have h2 : ∀ v, (storeRegister ra v s).midway = [] := fun v => (storeRegister_midway ra v s).trans h
  unfold incrementPointers
  simp only [bind_ok]
  constructor
  · rintro ⟨⟨p, s1⟩, h1, s2, h3, ⟨w, s3⟩, h4, h5⟩
    obtain ⟨r1, rfl, rfl⟩ := (accessRegister_ok _ _ _ _ _ h).mp h1
    obtain ⟨r3, rfl⟩ := (writeRegister_ok _ _ _ _ h).mp h3
    obtain ⟨r4, rfl⟩ := (accessPair_ok _ _ _ _ _ (h2 _)).mp h4
    exact ⟨r1, r3, w, r4, h5⟩
  · rintro ⟨h1, h3, w, h4, h5⟩
    exact ⟨_, (accessRegister_ok _ _ _ _ _ h).mpr ⟨h1, rfl, rfl⟩, _, (writeRegister_ok _ _ _ _ h).mpr ⟨h3, rfl⟩, _,
      (accessPair_ok _ _ _ _ _ (h2 _)).mpr ⟨h4, rfl⟩, h5⟩

theorem loadFromMemory_ok (fetch : Word → State → Byte) (dst : Place) (rr : Nib) (s t : State) (h : s.midway = []) :
    loadFromMemory fetch dst rr s = .ok t ↔ ∃ da a, placeAddress 0 dst s = .ok da ∧
      readPair 4 (workingAddress rr s) s = .ok a ∧ accessRight da s ≠ .readOnly ∧
      t = storeRegister da (fetch a s) s := by
  unfold loadFromMemory
  simp only [bind_ok]
  constructor
  · rintro ⟨⟨da, s1⟩, h1, ⟨a, s2⟩, h2, ⟨v, s3⟩, h3, h4⟩
    obtain ⟨r1, rfl⟩ := (accessPlace_ok _ _ _ _ _ h).mp h1
    obtain ⟨r2, rfl⟩ := (accessPair_ok _ _ _ _ _ h).mp h2
    rw [accessMemory_undisturbed _ _ _ h] at h3
    obtain ⟨rfl, rfl⟩ := Prod.mk.inj (Except.ok.inj h3)
    exact ⟨da, a, r1, r2, (writeRegister_ok _ _ _ _ h).mp h4⟩
  · rintro ⟨da, a, h1, h2, h4⟩
    exact ⟨_, (accessPlace_ok _ _ _ _ _ h).mpr ⟨h1, rfl⟩, _, (accessPair_ok _ _ _ _ _ h).mpr ⟨h2, rfl⟩, _,
      accessMemory_undisturbed _ _ _ h, (writeRegister_ok _ _ _ _ h).mpr h4⟩

theorem storeToMemory_ok (store : Word → Byte → State → State) (rr : Nib) (src : Place) (s t : State)
    (h : s.midway = []) :
    storeToMemory store rr src s = .ok t ↔ ∃ a v, readPair 0 (workingAddress rr s) s = .ok a ∧
      sourceValue (.place src) s = .ok v ∧ t = store a v s := by
  unfold storeToMemory
  simp only [bind_ok]
  constructor
  · rintro ⟨⟨a, s1⟩, h1, ⟨v, s2⟩, h2, e⟩
    obtain ⟨r1, rfl⟩ := (accessPair_ok _ _ _ _ _ h).mp h1
    obtain ⟨r2, rfl⟩ := (accessSource_ok _ _ _ _ h).mp h2
    rw [writeMemory_undisturbed _ _ _ _ h] at e
    exact ⟨a, v, r1, r2, (Except.ok.inj e).symm⟩
  · rintro ⟨a, v, h1, h2, rfl⟩
    exact ⟨_, (accessPair_ok _ _ _ _ _ h).mpr ⟨h1, rfl⟩, _, (accessSource_ok _ _ _ _ h).mpr ⟨h2, rfl⟩,
      writeMemory_undisturbed _ _ _ _ h⟩

theorem branchOnBit_ok (want : Bool) (b : BitNo) (p : Place) (x : Byte) (s t : State) (h : s.midway = []) :
    branchOnBit want b p x s = .ok t ↔ ∃ v, sourceValue (.place p) s = .ok v ∧
      t = branchIf (v.getLsbD b.toNat == want) (relativeTarget x s) s := by
  unfold branchOnBit
  simp only [bind_ok]
  constructor
  · rintro ⟨⟨v, s1⟩, h1, e⟩
    obtain ⟨r1, rfl⟩ := (accessSource_ok _ _ _ _ h).mp h1
    exact ⟨v, r1, (Except.ok.inj e).symm⟩
  · rintro ⟨v, h1, rfl⟩
    exact ⟨_, (accessSource_ok _ _ _ _ h).mpr ⟨h1, rfl⟩, rfl⟩

/-! ### Program and Data Memory -/

/-- A store to Program Memory changes `pm` and what the Fetch Unit holds, and nothing else. -/
theorem writeProgram_fields (a : Word) (v : Byte) (s : State) :
    ∃ pm stale, writeProgram a v s = { s with pm := pm, stale := stale } := by
  unfold writeProgram
  split
  · exact ⟨_, _, rfl⟩
  · exact ⟨_, _, rfl⟩

/-- A store to Data Memory changes `dm` and nothing else. -/
theorem writeData_fields (a : Word) (v : Byte) (s : State) : ∃ dm, writeData a v s = { s with dm := dm } := by
  unfold writeData
  split
  · exact ⟨_, rfl⟩
  · exact ⟨_, rfl⟩

/-! ### Reset -/

/-- The memories of the reset state are in canonical form. -/
theorem reset_memories_wf : Memory.wf rfBlank State.reset.rf = true ∧ Memory.wf memBlank State.reset.pm = true ∧
    Memory.wf memBlank State.reset.dm = true := ⟨rfl, rfl, rfl⟩

end Sys2Proof.Machine
end

