-- ==== Sys2Proof/Laws/Undisturbed.lean ====
section
/-!
SUPPORT. Where no outside agent moves in the middle of an instruction (`s.midway = []`), no operation ends in a Reset: a
next state of the instruction is then exactly an answer of its shared operation.
-/

namespace Sys2Proof.Machine

/-- The operation does not end in a Reset. -/
def Calm {α : Type} (r : Res α) : Prop := ∀ s, r ≠ .error (.reset s)

theorem calm_ok {α : Type} (a : α) : Calm (.ok a : Res α) := fun _ h => nomatch h

theorem calm_refuse {α : Type} (r : Refusal) : Calm (refuse r : Res α) := fun _ h => nomatch h

theorem calm_bind {α β : Type} {x : Res α} {f : α → Res β} (hx : Calm x) (hf : ∀ a, x = .ok a → Calm (f a)) :
    Calm (x >>= f) := by
  rcases x with e | a
  · intro s h
    exact hx s (congrArg Except.error (Except.error.inj h))
  · exact hf a rfl

/-- An instruction over an operation that does not end in a Reset goes on exactly where the operation answers. -/
theorem finish_next_of_calm {r : Res State} (h : Calm r) (t : State) : finish r = .next t ↔ r = .ok t := by
  rw [finish_next]
  exact or_iff_left fun ⟨s, e, _⟩ => h s e

theorem accessRegister_calm {k : Nat} {a : Addr} {s : State} (h : s.midway = []) : Calm (accessRegister k a s) := by
  rw [accessRegister_undisturbed k a s h]
  split
  · exact calm_refuse _
  · exact calm_ok _

theorem writeRegister_calm {a : Addr} {v : Byte} {s : State} (h : s.midway = []) : Calm (writeRegister a v s) := by
  rw [writeRegister_undisturbed a v s h]
  split
  · exact calm_refuse _
  · exact calm_ok _

theorem accessMemory_calm {fetch : Word → State → Byte} {a : Word} {s : State} (h : s.midway = []) :
    Calm (accessMemory fetch a s) := by
  rw [accessMemory_undisturbed fetch a s h]
  exact calm_ok _

theorem writeMemory_calm {store : Word → Byte → State → State} {a : Word} {v : Byte} {s : State} (h : s.midway = []) :
    Calm (writeMemory store a v s) := by
  rw [writeMemory_undisturbed store a v s h]
  exact calm_ok _

theorem accessTwo_calm {k : Nat} {a : Addr} {s : State} (h : s.midway = []) : Calm (accessTwo k a s) := by
  unfold accessTwo
  simp only [lowFirst_undisturbed k s h, Bool.false_eq_true, if_false]
  refine calm_bind (accessRegister_calm h) fun ⟨hi, s1⟩ e => ?_
  obtain ⟨-, -, rfl⟩ := (accessRegister_ok _ _ _ _ _ h).mp e
  exact calm_bind (accessRegister_calm h) fun _ _ => calm_ok _

theorem accessPair_calm {k : Nat} {a : Addr} {s : State} (h : s.midway = []) : Calm (accessPair k a s) := accessTwo_calm h

theorem writeTwo_calm {a : Addr} {w : Word} {s : State} (h : s.midway = []) : Calm (writeTwo a w s) := by
  unfold writeTwo
  simp only [lowFirst_undisturbed 12 s h, Bool.false_eq_true, if_false]
  refine calm_bind (writeRegister_calm h) fun s1 e => ?_
  obtain ⟨-, rfl⟩ := (writeRegister_ok _ _ _ _ h).mp e
  exact writeRegister_calm ((storeRegister_midway _ _ _).trans h)

theorem writePair_calm {a : Addr} {w : Word} {s : State} (h : s.midway = []) : Calm (writePair a w s) := writeTwo_calm h

theorem push8_calm {v : Byte} {s : State} (h : s.midway = []) : Calm (push8 v s) := by
  unfold push8
  split
  · exact calm_refuse _
  split
  · exact writeRegister_calm h
  · exact calm_refuse _

theorem push16_calm {w : Word} {s : State} (h : s.midway = []) : Calm (push16 w s) :=
  calm_bind (push8_calm h) fun _ e => push8_calm (push8_midway _ _ _ h e)

theorem releaseByte_calm {s : State} : Calm (releaseByte s) := by
  unfold releaseByte
  split
  · exact calm_refuse _
  · exact calm_ok _

theorem accessStack_calm {k : Nat} {s : State} (h : s.midway = []) : Calm (accessStack k s) := by
  unfold accessStack
  split
  · exact accessRegister_calm h
  · exact calm_refuse _

theorem pop8_calm {k : Nat} {s : State} (h : s.midway = []) : Calm (pop8 k s) :=
  calm_bind (accessStack_calm h) fun _ _ => calm_bind releaseByte_calm fun _ _ => calm_ok _

theorem pop16_calm {k : Nat} {s : State} (h : s.midway = []) : Calm (pop16 k s) := by
  refine calm_bind (pop8_calm h) fun ⟨hi, s1⟩ e => ?_
  obtain ⟨-, -, -, -, rfl⟩ := (pop8_ok _ _ _ _ h).mp e
  exact calm_bind (pop8_calm h) fun _ _ => calm_ok _

theorem takeException_calm {ret vector : Word} {clears : Bool} {s : State} (h : s.midway = []) :
    Calm (takeException ret vector clears s) := by
  refine calm_bind (push16_calm h) fun s1 e1 => ?_
  have h1 := push16_midway _ _ _ h e1
  refine calm_bind (push8_calm h1) fun s2 e2 => ?_
  have h2 := push8_midway _ _ _ h1 e2
  have h3 : (if clears then setInterruptsEnabled false s2 else s2).midway = [] := by split <;> exact h2
  rw [accessVector_undisturbed _ _ h3]
  exact calm_ok _

theorem illegalInstruction_calm {a : Word} {s : State} (h : s.midway = []) : Calm (illegalInstruction a s) :=
  calm_bind (takeException_calm h) fun _ _ => calm_ok _

theorem interruptEntry_calm {v : Word} {s : State} (h : s.midway = []) : Calm (interruptEntry v s) :=
  calm_bind (takeException_calm h) fun _ _ => calm_ok _

theorem returnFromException_calm {s : State} (h : s.midway = []) : Calm (returnFromException s) := by
  refine calm_bind (pop8_calm h) fun ⟨f, s1⟩ e => ?_
  obtain ⟨-, -, -, -, rfl⟩ := (pop8_ok _ _ _ _ h).mp e
  exact calm_bind (pop16_calm h) fun _ _ => calm_ok _

theorem accessPlace_calm {k : Nat} {p : Place} {s : State} (h : s.midway = []) : Calm (accessPlace k p s s) := by
  cases p <;> first
    | exact calm_ok _
    | exact calm_bind (accessRegister_calm h) fun _ _ => calm_ok _
    | exact calm_bind (accessPair_calm h) fun _ _ => calm_ok _

theorem accessSource_calm {src : Source} {s : State} (h : s.midway = []) : Calm (accessSource src s s) := by
  cases src with
  | imm v => exact calm_ok _
  | place p =>
    refine calm_bind (accessPlace_calm h) fun ⟨a, s1⟩ e => ?_
    obtain ⟨-, rfl⟩ := (accessPlace_ok _ _ _ _ _ h).mp e
    exact accessRegister_calm h

theorem combine_calm {f : Byte → Byte → AluResult} {dst : Place} {src : Source} {s : State} (h : s.midway = []) :
    Calm (combine f dst src s) := by
  refine calm_bind (accessPlace_calm h) fun ⟨da, s1⟩ e1 => ?_
  obtain ⟨-, rfl⟩ := (accessPlace_ok _ _ _ _ _ h).mp e1
  refine calm_bind (accessSource_calm h) fun ⟨v, s2⟩ e2 => ?_
  obtain ⟨-, rfl⟩ := (accessSource_ok _ _ _ _ h).mp e2
  refine calm_bind (accessRegister_calm h) fun ⟨d, s3⟩ e3 => ?_
  obtain ⟨-, -, rfl⟩ := (accessRegister_ok _ _ _ _ _ h).mp e3
  exact calm_bind (writeRegister_calm h) fun _ _ => calm_ok _

theorem test_calm {f : Byte → Byte → AluResult} {dst : Place} {src : Source} {s : State} (h : s.midway = []) :
    Calm (test f dst src s) := by
  refine calm_bind (accessPlace_calm h) fun ⟨da, s1⟩ e1 => ?_
  obtain ⟨-, rfl⟩ := (accessPlace_ok _ _ _ _ _ h).mp e1
  refine calm_bind (accessSource_calm h) fun ⟨v, s2⟩ e2 => ?_
  obtain ⟨-, rfl⟩ := (accessSource_ok _ _ _ _ h).mp e2
  exact calm_bind (accessRegister_calm h) fun _ _ => calm_ok _

theorem modify_calm {f : Byte → AluResult} {dst : Place} {s : State} (h : s.midway = []) : Calm (modify f dst s) := by
  refine calm_bind (accessPlace_calm h) fun ⟨da, s1⟩ e1 => ?_
  obtain ⟨-, rfl⟩ := (accessPlace_ok _ _ _ _ _ h).mp e1
  refine calm_bind (accessRegister_calm h) fun ⟨d, s2⟩ e2 => ?_
  obtain ⟨-, -, rfl⟩ := (accessRegister_ok _ _ _ _ _ h).mp e2
  exact calm_bind (writeRegister_calm h) fun _ _ => calm_ok _

theorem modifyPair_calm {f : Word → Word × FlagUpdate} {dst : Place} {s : State} (h : s.midway = []) :
    Calm (modifyPair f dst s) := by
  refine calm_bind (accessPlace_calm h) fun ⟨da, s1⟩ e1 => ?_
  obtain ⟨-, rfl⟩ := (accessPlace_ok _ _ _ _ _ h).mp e1
  refine calm_bind (accessPair_calm h) fun ⟨w, s2⟩ e2 => ?_
  obtain ⟨-, rfl⟩ := (accessPair_ok _ _ _ _ _ h).mp e2
  exact calm_bind (writePair_calm h) fun _ _ => calm_ok _

theorem load_calm {dst : Place} {src : Source} {s : State} (h : s.midway = []) : Calm (load dst src s) := by
  refine calm_bind (accessPlace_calm h) fun ⟨da, s1⟩ e1 => ?_
  obtain ⟨-, rfl⟩ := (accessPlace_ok _ _ _ _ _ h).mp e1
  refine calm_bind (accessSource_calm h) fun ⟨v, s2⟩ e2 => ?_
  obtain ⟨-, rfl⟩ := (accessSource_ok _ _ _ _ h).mp e2
  exact writeRegister_calm h

theorem pushFrom_calm {src : Source} {s : State} (h : s.midway = []) : Calm (pushFrom src s) := by
  refine calm_bind (accessSource_calm h) fun ⟨v, s1⟩ e1 => ?_
  obtain ⟨-, rfl⟩ := (accessSource_ok _ _ _ _ h).mp e1
  exact push8_calm h

theorem popInto_calm {dst : Place} {s : State} (h : s.midway = []) : Calm (popInto dst s) := by
  refine calm_bind (accessPlace_calm h) fun ⟨da, s1⟩ e1 => ?_
  obtain ⟨-, rfl⟩ := (accessPlace_ok _ _ _ _ _ h).mp e1
  refine calm_bind (accessStack_calm h) fun ⟨v, s2⟩ e2 => ?_
  obtain ⟨-, -, -, rfl⟩ := (accessStack_ok _ _ _ _ h).mp e2
  exact calm_bind (writeRegister_calm h) fun _ _ => releaseByte_calm

theorem incrementPointers_calm {ra rra : Addr} {s : State} (h : s.midway = []) : Calm (incrementPointers ra rra s) := by
  refine calm_bind (accessRegister_calm h) fun ⟨p, s1⟩ e1 => ?_
  obtain ⟨-, -, rfl⟩ := (accessRegister_ok _ _ _ _ _ h).mp e1
  refine calm_bind (writeRegister_calm h) fun s2 e2 => ?_
  obtain ⟨-, rfl⟩ := (writeRegister_ok _ _ _ _ h).mp e2
  have h2 : (storeRegister ra (p + 1) s1).midway = [] := (storeRegister_midway _ _ _).trans h
  refine calm_bind (accessPair_calm h2) fun ⟨w, s3⟩ e3 => ?_
  obtain ⟨-, rfl⟩ := (accessPair_ok _ _ _ _ _ h2).mp e3
  exact writePair_calm h2

theorem loadFromMemory_calm {fetch : Word → State → Byte} {dst : Place} {rr : Nib} {s : State} (h : s.midway = []) :
    Calm (loadFromMemory fetch dst rr s) := by
  refine calm_bind (accessPlace_calm h) fun ⟨da, s1⟩ e1 => ?_
  obtain ⟨-, rfl⟩ := (accessPlace_ok _ _ _ _ _ h).mp e1
  refine calm_bind (accessPair_calm h) fun ⟨a, s2⟩ e2 => ?_
  obtain ⟨-, rfl⟩ := (accessPair_ok _ _ _ _ _ h).mp e2
  refine calm_bind (accessMemory_calm h) fun ⟨v, s3⟩ e3 => ?_
  rw [accessMemory_undisturbed _ _ _ h] at e3
  obtain ⟨-, rfl⟩ := Prod.mk.inj (Except.ok.inj e3)
  exact writeRegister_calm h

theorem storeToMemory_calm {store : Word → Byte → State → State} {rr : Nib} {src : Place} {s : State}
    (h : s.midway = []) : Calm (storeToMemory store rr src s) := by
  refine calm_bind (accessPair_calm h) fun ⟨a, s1⟩ e1 => ?_
  obtain ⟨-, rfl⟩ := (accessPair_ok _ _ _ _ _ h).mp e1
  refine calm_bind (accessSource_calm h) fun ⟨v, s2⟩ e2 => ?_
  obtain ⟨-, rfl⟩ := (accessSource_ok _ _ _ _ h).mp e2
  exact writeMemory_calm h

theorem branchOnBit_calm {want : Bool} {b : BitNo} {p : Place} {x : Byte} {s : State} (h : s.midway = []) :
    Calm (branchOnBit want b p x s) :=
  calm_bind (accessSource_calm h) fun _ _ => calm_ok _

end Sys2Proof.Machine
end

