-- ==== Sys2Proof/Tests/Slice0.lean ====
section
/-!
SUPPORT. Tests. Decoding: one word of every row of spec/opcode_table.json, its fixed bits and operand places taken from
the row. One-step tests: vectors of 95_test_vectors.md, named by their Id there. Witnesses: states and operands that meet
the hypotheses of each statement of Obligations.lean.
-/

namespace Sys2Proof.Tests

open Sys2Proof Sys2Proof.Machine Sys2Proof.Claims

/-! ### Decoding (spec/opcode_table.json) -/

theorem test_decode_arithmetic_1 :
    decode [0x17, 0x43, 0x9D] = .ok (.adc_IR_IM 0x43 0x9D) 3 ∧
    decode [0x16, 0x43, 0x9D] = .ok (.adc_R_IM 0x43 0x9D) 3 ∧
    decode [0x15, 0x18, 0x43] = .ok (.adc_R_IR 0x43 0x18) 3 ∧
    decode [0x14, 0x18, 0x43] = .ok (.adc_R_R 0x43 0x18) 3 ∧
    decode [0x13, 0x6B] = .ok (.adc_r_Ir 0x6 0xB) 2 ∧
    decode [0x12, 0x6B] = .ok (.adc_r_r 0x6 0xB) 2 ∧
    decode [0x18, 0xB1, 0x26, 0x34] = .ok (.adcx_ER_ER 0x634 0xB12) 4 ∧
    decode [0x19, 0x9D, 0x06, 0x34] = .ok (.adcx_ER_IM 0x634 0x9D) 4 ∧
    decode [0x07, 0x43, 0x9D] = .ok (.add_IR_IM 0x43 0x9D) 3 ∧
    decode [0x06, 0x43, 0x9D] = .ok (.add_R_IM 0x43 0x9D) 3 ∧
    decode [0x05, 0x18, 0x43] = .ok (.add_R_IR 0x43 0x18) 3 ∧
    decode [0x04, 0x18, 0x43] = .ok (.add_R_R 0x43 0x18) 3 := by
  decide

theorem test_decode_arithmetic_2 :
    decode [0x03, 0x6B] = .ok (.add_r_Ir 0x6 0xB) 2 ∧
    decode [0x02, 0x6B] = .ok (.add_r_r 0x6 0xB) 2 ∧
    decode [0x08, 0xB1, 0x26, 0x34] = .ok (.addx_ER_ER 0x634 0xB12) 4 ∧
    decode [0x09, 0x9D, 0x06, 0x34] = .ok (.addx_ER_IM 0x634 0x9D) 4 ∧
    decode [0xA7, 0x43, 0x9D] = .ok (.cp_IR_IM 0x43 0x9D) 3 ∧
    decode [0xA6, 0x43, 0x9D] = .ok (.cp_R_IM 0x43 0x9D) 3 ∧
    decode [0xA5, 0x18, 0x43] = .ok (.cp_R_IR 0x43 0x18) 3 ∧
    decode [0xA4, 0x18, 0x43] = .ok (.cp_R_R 0x43 0x18) 3 ∧
    decode [0xA3, 0x6B] = .ok (.cp_r_Ir 0x6 0xB) 2 ∧
    decode [0xA2, 0x6B] = .ok (.cp_r_r 0x6 0xB) 2 ∧
    decode [0x1F, 0xA7, 0x43, 0x9D] = .ok (.cpc_IR_IM 0x43 0x9D) 4 ∧
    decode [0x1F, 0xA6, 0x43, 0x9D] = .ok (.cpc_R_IM 0x43 0x9D) 4 := by
  decide

theorem test_decode_arithmetic_3 :
    decode [0x1F, 0xA5, 0x18, 0x43] = .ok (.cpc_R_IR 0x43 0x18) 4 ∧
    decode [0x1F, 0xA4, 0x18, 0x43] = .ok (.cpc_R_R 0x43 0x18) 4 ∧
    decode [0x1F, 0xA3, 0x6B] = .ok (.cpc_r_Ir 0x6 0xB) 3 ∧
    decode [0x1F, 0xA2, 0x6B] = .ok (.cpc_r_r 0x6 0xB) 3 ∧
    decode [0x1F, 0xA8, 0xB1, 0x26, 0x34] = .ok (.cpcx_ER_ER 0x634 0xB12) 5 ∧
    decode [0x1F, 0xA9, 0x9D, 0x06, 0x34] = .ok (.cpcx_ER_IM 0x634 0x9D) 5 ∧
    decode [0xA8, 0xB1, 0x26, 0x34] = .ok (.cpx_ER_ER 0x634 0xB12) 4 ∧
    decode [0xA9, 0x9D, 0x06, 0x34] = .ok (.cpx_ER_IM 0x634 0x9D) 4 ∧
    decode [0x41, 0x43] = .ok (.da_IR 0x43) 2 ∧
    decode [0x40, 0x43] = .ok (.da_R 0x43) 2 ∧
    decode [0x31, 0x43] = .ok (.dec_IR 0x43) 2 ∧
    decode [0x30, 0x43] = .ok (.dec_R 0x43) 2 := by
  decide

theorem test_decode_arithmetic_4 :
    decode [0x81, 0x43] = .ok (.decw_IR 0x43) 2 ∧
    decode [0x80, 0x42] = .ok (.decw_RR 0x42) 2 ∧
    decode [0x21, 0x43] = .ok (.inc_IR 0x43) 2 ∧
    decode [0x20, 0x43] = .ok (.inc_R 0x43) 2 ∧
    decode [0x6E] = .ok (.inc_r 0x6) 1 ∧
    decode [0xA1, 0x43] = .ok (.incw_IR 0x43) 2 ∧
    decode [0xA0, 0x42] = .ok (.incw_RR 0x42) 2 ∧
    decode [0xF4, 0x42] = .ok (.mult_RR 0x42) 2 ∧
    decode [0x37, 0x43, 0x9D] = .ok (.sbc_IR_IM 0x43 0x9D) 3 ∧
    decode [0x36, 0x43, 0x9D] = .ok (.sbc_R_IM 0x43 0x9D) 3 ∧
    decode [0x35, 0x18, 0x43] = .ok (.sbc_R_IR 0x43 0x18) 3 ∧
    decode [0x34, 0x18, 0x43] = .ok (.sbc_R_R 0x43 0x18) 3 := by
  decide

theorem test_decode_arithmetic_5 :
    decode [0x33, 0x6B] = .ok (.sbc_r_Ir 0x6 0xB) 2 ∧
    decode [0x32, 0x6B] = .ok (.sbc_r_r 0x6 0xB) 2 ∧
    decode [0x38, 0xB1, 0x26, 0x34] = .ok (.sbcx_ER_ER 0x634 0xB12) 4 ∧
    decode [0x39, 0x9D, 0x06, 0x34] = .ok (.sbcx_ER_IM 0x634 0x9D) 4 ∧
    decode [0x27, 0x43, 0x9D] = .ok (.sub_IR_IM 0x43 0x9D) 3 ∧
    decode [0x26, 0x43, 0x9D] = .ok (.sub_R_IM 0x43 0x9D) 3 ∧
    decode [0x25, 0x18, 0x43] = .ok (.sub_R_IR 0x43 0x18) 3 ∧
    decode [0x24, 0x18, 0x43] = .ok (.sub_R_R 0x43 0x18) 3 ∧
    decode [0x23, 0x6B] = .ok (.sub_r_Ir 0x6 0xB) 2 ∧
    decode [0x22, 0x6B] = .ok (.sub_r_r 0x6 0xB) 2 ∧
    decode [0x28, 0xB1, 0x26, 0x34] = .ok (.subx_ER_ER 0x634 0xB12) 4 ∧
    decode [0x29, 0x9D, 0x06, 0x34] = .ok (.subx_ER_IM 0x634 0x9D) 4 := by
  decide

theorem test_decode_bit_manipulation_1 :
    decode [0xE2, 0x56] = .ok (.bit false 5 0x6) 2 ∧
    decode [0xE2, 0xD6] = .ok (.bit true 5 0x6) 2 ∧
    decode [0xE2, 0xD6] = .ok (.bit true 5 0x6) 2 ∧
    decode [0xD5, 0x43] = .ok (.bswap_R 0x43) 2 ∧
    decode [0xEF] = .ok .ccf 1 ∧
    decode [0xCF] = .ok .rcf 1 ∧
    decode [0xDF] = .ok .scf 1 ∧
    decode [0x67, 0x43, 0x9D] = .ok (.tcm_IR_IM 0x43 0x9D) 3 ∧
    decode [0x66, 0x43, 0x9D] = .ok (.tcm_R_IM 0x43 0x9D) 3 ∧
    decode [0x65, 0x18, 0x43] = .ok (.tcm_R_IR 0x43 0x18) 3 ∧
    decode [0x64, 0x18, 0x43] = .ok (.tcm_R_R 0x43 0x18) 3 ∧
    decode [0x63, 0x6B] = .ok (.tcm_r_Ir 0x6 0xB) 2 := by
  decide

theorem test_decode_bit_manipulation_2 :
    decode [0x62, 0x6B] = .ok (.tcm_r_r 0x6 0xB) 2 ∧
    decode [0x68, 0xB1, 0x26, 0x34] = .ok (.tcmx_ER_ER 0x634 0xB12) 4 ∧
    decode [0x69, 0x9D, 0x06, 0x34] = .ok (.tcmx_ER_IM 0x634 0x9D) 4 ∧
    decode [0x77, 0x43, 0x9D] = .ok (.tm_IR_IM 0x43 0x9D) 3 ∧
    decode [0x76, 0x43, 0x9D] = .ok (.tm_R_IM 0x43 0x9D) 3 ∧
    decode [0x75, 0x18, 0x43] = .ok (.tm_R_IR 0x43 0x18) 3 ∧
    decode [0x74, 0x18, 0x43] = .ok (.tm_R_R 0x43 0x18) 3 ∧
    decode [0x73, 0x6B] = .ok (.tm_r_Ir 0x6 0xB) 2 ∧
    decode [0x72, 0x6B] = .ok (.tm_r_r 0x6 0xB) 2 ∧
    decode [0x78, 0xB1, 0x26, 0x34] = .ok (.tmx_ER_ER 0x634 0xB12) 4 ∧
    decode [0x79, 0x9D, 0x06, 0x34] = .ok (.tmx_ER_IM 0x634 0x9D) 4 := by
  decide

theorem test_decode_block_transfer :
    decode [0xC5, 0x6C] = .ok (.ldc_Ir_Irr 0x6 0xC) 2 ∧
    decode [0xD2, 0xB6] = .ok (.ldc_Irr_r 0x6 0xB) 2 ∧
    decode [0xC2, 0x6C] = .ok (.ldc_r_Irr 0x6 0xC) 2 ∧
    decode [0xC3, 0x6C] = .ok (.ldci_Ir_Irr 0x6 0xC) 2 ∧
    decode [0xD3, 0xB6] = .ok (.ldci_Irr_Ir 0x6 0xB) 2 ∧
    decode [0x92, 0xB6] = .ok (.lde_Irr_r 0x6 0xB) 2 ∧
    decode [0x82, 0x6C] = .ok (.lde_r_Irr 0x6 0xC) 2 ∧
    decode [0x83, 0x6C] = .ok (.ldei_Ir_Irr 0x6 0xC) 2 ∧
    decode [0x93, 0xB6] = .ok (.ldei_Irr_Ir 0x6 0xB) 2 := by
  decide

theorem test_decode_cpu_control :
    decode [0x2F] = .ok .atm 1 ∧
    decode [0x8F] = .ok .di 1 ∧
    decode [0x9F] = .ok .ei 1 ∧
    decode [0x7F] = .ok .halt 1 ∧
    decode [0x0F] = .ok .nop 1 ∧
    decode [0x01, 0x9D] = .ok (.srp 0x9D) 2 ∧
    decode [0x6F] = .ok .stop 1 ∧
    decode [0x5F] = .ok .wdt 1 := by
  decide

theorem test_decode_load_1 :
    decode [0xB1, 0x43] = .ok (.clr_IR 0x43) 2 ∧
    decode [0xB0, 0x43] = .ok (.clr_R 0x43) 2 ∧
    decode [0xE7, 0x43, 0x9D] = .ok (.ld_IR_IM 0x43 0x9D) 3 ∧
    decode [0xF5, 0x18, 0x43] = .ok (.ld_IR_R 0x43 0x18) 3 ∧
    decode [0xF3, 0x6B] = .ok (.ld_Ir_r 0x6 0xB) 2 ∧
    decode [0xE6, 0x43, 0x9D] = .ok (.ld_R_IM 0x43 0x9D) 3 ∧
    decode [0xE5, 0x18, 0x43] = .ok (.ld_R_IR 0x43 0x18) 3 ∧
    decode [0xE4, 0x18, 0x43] = .ok (.ld_R_R 0x43 0x18) 3 ∧
    decode [0xD7, 0xB6, 0xF7] = .ok (.ld_Xr_r 0x6 0xF7 0xB) 3 ∧
    decode [0x6C, 0x9D] = .ok (.ld_r_IM 0x6 0x9D) 2 ∧
    decode [0xE3, 0x6B] = .ok (.ld_r_Ir 0x6 0xB) 2 ∧
    decode [0xC7, 0x6B, 0xF7] = .ok (.ld_r_Xr 0x6 0xB 0xF7) 3 := by
  decide

theorem test_decode_load_2 :
    decode [0x1F, 0xE8, 0xB1, 0x26, 0x34] = .ok (.ldwx_ER_ER 0x634 0xB12) 5 ∧
    decode [0xE8, 0xB1, 0x26, 0x34] = .ok (.ldx_ER_ER 0x634 0xB12) 4 ∧
    decode [0xE9, 0x9D, 0x06, 0x34] = .ok (.ldx_ER_IM 0x634 0x9D) 4 ∧
    decode [0x95, 0xB6, 0x34] = .ok (.ldx_ER_Ir 0x634 0xB) 3 ∧
    decode [0x94, 0xB6, 0x34] = .ok (.ldx_ER_r 0x634 0xB) 3 ∧
    decode [0x97, 0x18, 0x42] = .ok (.ldx_IRR_IR 0x42 0x18) 3 ∧
    decode [0x96, 0x18, 0x42] = .ok (.ldx_IRR_R 0x42 0x18) 3 ∧
    decode [0x87, 0x5E, 0x43] = .ok (.ldx_IR_IRR 0x43 0x5E) 3 ∧
    decode [0x85, 0x6B, 0x12] = .ok (.ldx_Ir_ER 0x6 0xB12) 3 ∧
    decode [0x86, 0x5E, 0x43] = .ok (.ldx_R_IRR 0x43 0x5E) 3 ∧
    decode [0x89, 0x6B, 0xF7] = .ok (.ldx_Xrr_r 0x6 0xF7 0xB) 3 ∧
    decode [0x84, 0x6B, 0x12] = .ok (.ldx_r_ER 0x6 0xB12) 3 := by
  decide

theorem test_decode_load_3 :
    decode [0x88, 0x6C, 0xF7] = .ok (.ldx_r_Xrr 0x6 0xC 0xF7) 3 ∧
    decode [0x98, 0x6B, 0xF7] = .ok (.lea_r_Xr 0x6 0xB 0xF7) 3 ∧
    decode [0x99, 0x6C, 0xF7] = .ok (.lea_rr_Xrr 0x6 0xC 0xF7) 3 ∧
    decode [0x51, 0x43] = .ok (.pop_IR 0x43) 2 ∧
    decode [0x50, 0x43] = .ok (.pop_R 0x43) 2 ∧
    decode [0xD8, 0x63, 0x40] = .ok (.popx_ER 0x634) 3 ∧
    decode [0x1F, 0x70, 0x9D] = .ok (.push_IM 0x9D) 3 ∧
    decode [0x71, 0x18] = .ok (.push_IR 0x18) 2 ∧
    decode [0x70, 0x18] = .ok (.push_R 0x18) 2 ∧
    decode [0xC8, 0xB1, 0x20] = .ok (.pushx_ER 0xB12) 3 := by
  decide

theorem test_decode_logical_1 :
    decode [0x57, 0x43, 0x9D] = .ok (.and_IR_IM 0x43 0x9D) 3 ∧
    decode [0x56, 0x43, 0x9D] = .ok (.and_R_IM 0x43 0x9D) 3 ∧
    decode [0x55, 0x18, 0x43] = .ok (.and_R_IR 0x43 0x18) 3 ∧
    decode [0x54, 0x18, 0x43] = .ok (.and_R_R 0x43 0x18) 3 ∧
    decode [0x53, 0x6B] = .ok (.and_r_Ir 0x6 0xB) 2 ∧
    decode [0x52, 0x6B] = .ok (.and_r_r 0x6 0xB) 2 ∧
    decode [0x58, 0xB1, 0x26, 0x34] = .ok (.andx_ER_ER 0x634 0xB12) 4 ∧
    decode [0x59, 0x9D, 0x06, 0x34] = .ok (.andx_ER_IM 0x634 0x9D) 4 ∧
    decode [0x61, 0x43] = .ok (.com_IR 0x43) 2 ∧
    decode [0x60, 0x43] = .ok (.com_R 0x43) 2 ∧
    decode [0x47, 0x43, 0x9D] = .ok (.or_IR_IM 0x43 0x9D) 3 ∧
    decode [0x46, 0x43, 0x9D] = .ok (.or_R_IM 0x43 0x9D) 3 := by
  decide

theorem test_decode_logical_2 :
    decode [0x45, 0x18, 0x43] = .ok (.or_R_IR 0x43 0x18) 3 ∧
    decode [0x44, 0x18, 0x43] = .ok (.or_R_R 0x43 0x18) 3 ∧
    decode [0x43, 0x6B] = .ok (.or_r_Ir 0x6 0xB) 2 ∧
    decode [0x42, 0x6B] = .ok (.or_r_r 0x6 0xB) 2 ∧
    decode [0x48, 0xB1, 0x26, 0x34] = .ok (.orx_ER_ER 0x634 0xB12) 4 ∧
    decode [0x49, 0x9D, 0x06, 0x34] = .ok (.orx_ER_IM 0x634 0x9D) 4 ∧
    decode [0xB7, 0x43, 0x9D] = .ok (.xor_IR_IM 0x43 0x9D) 3 ∧
    decode [0xB6, 0x43, 0x9D] = .ok (.xor_R_IM 0x43 0x9D) 3 ∧
    decode [0xB5, 0x18, 0x43] = .ok (.xor_R_IR 0x43 0x18) 3 ∧
    decode [0xB4, 0x18, 0x43] = .ok (.xor_R_R 0x43 0x18) 3 ∧
    decode [0xB3, 0x6B] = .ok (.xor_r_Ir 0x6 0xB) 2 ∧
    decode [0xB2, 0x6B] = .ok (.xor_r_r 0x6 0xB) 2 := by
  decide

theorem test_decode_logical_3 :
    decode [0xB8, 0xB1, 0x26, 0x34] = .ok (.xorx_ER_ER 0x634 0xB12) 4 ∧
    decode [0xB9, 0x9D, 0x06, 0x34] = .ok (.xorx_ER_IM 0x634 0x9D) 4 := by
  decide

theorem test_decode_program_control_1 :
    decode [0x00] = .ok .brk 1 ∧
    decode [0xF7, 0xDB, 0xF7] = .ok (.btj_Ir true 5 0xB 0xF7) 3 ∧
    decode [0xF6, 0xDB, 0xF7] = .ok (.btj_r true 5 0xB 0xF7) 3 ∧
    decode [0xF7, 0xDB, 0xF7] = .ok (.btj_Ir true 5 0xB 0xF7) 3 ∧
    decode [0xF6, 0xDB, 0xF7] = .ok (.btj_r true 5 0xB 0xF7) 3 ∧
    decode [0xF7, 0x5B, 0xF7] = .ok (.btj_Ir false 5 0xB 0xF7) 3 ∧
    decode [0xF6, 0x5B, 0xF7] = .ok (.btj_r false 5 0xB 0xF7) 3 ∧
    decode [0xD6, 0x1A, 0x2C] = .ok (.call_DA 0x1A2C) 3 ∧
    decode [0xD4, 0x42] = .ok (.call_IRR 0x42) 2 ∧
    decode [0x6A, 0xF7] = .ok (.djnz 0x6 0xF7) 2 ∧
    decode [0xBF] = .ok .iret 1 ∧
    decode [0x8D, 0x1A, 0x2C] = .ok (.jp_cc .t 0x1A2C) 3 := by
  decide

theorem test_decode_program_control_2 :
    decode [0xC4, 0x42] = .ok (.jp_IRR 0x42) 2 ∧
    decode [0xBD, 0x1A, 0x2C] = .ok (.jp_cc .ugt 0x1A2C) 3 ∧
    decode [0x8B, 0xF7] = .ok (.jr_cc .t 0xF7) 2 ∧
    decode [0xBB, 0xF7] = .ok (.jr_cc .ugt 0xF7) 2 ∧
    decode [0xAF] = .ok .ret 1 ∧
    decode [0xF2, 0x35] = .ok (.trap 0x35) 2 := by
  decide

theorem test_decode_rotate_shift_1 :
    decode [0x91, 0x43] = .ok (.rl_IR 0x43) 2 ∧
    decode [0x90, 0x43] = .ok (.rl_R 0x43) 2 ∧
    decode [0x11, 0x43] = .ok (.rlc_IR 0x43) 2 ∧
    decode [0x10, 0x43] = .ok (.rlc_R 0x43) 2 ∧
    decode [0xE1, 0x43] = .ok (.rr_IR 0x43) 2 ∧
    decode [0xE0, 0x43] = .ok (.rr_R 0x43) 2 ∧
    decode [0xC1, 0x43] = .ok (.rrc_IR 0x43) 2 ∧
    decode [0xC0, 0x43] = .ok (.rrc_R 0x43) 2 ∧
    decode [0xD1, 0x43] = .ok (.sra_IR 0x43) 2 ∧
    decode [0xD0, 0x43] = .ok (.sra_R 0x43) 2 ∧
    decode [0x1F, 0xC1, 0x43] = .ok (.srl_IR 0x43) 3 ∧
    decode [0x1F, 0xC0, 0x43] = .ok (.srl_R 0x43) 3 := by
  decide

theorem test_decode_rotate_shift_2 :
    decode [0xF1, 0x43] = .ok (.swap_IR 0x43) 2 ∧
    decode [0xF0, 0x43] = .ok (.swap_R 0x43) 2 := by
  decide

theorem test_decode_illegal :
    decode [0x3F] = .illegalFirst 0x3F ∧ decode [0x4F] = .illegalFirst 0x4F ∧ decode [0xC6] = .illegalFirst 0xC6 ∧
    decode [0xC9] = .illegalFirst 0xC9 ∧ decode [0xD9] = .illegalFirst 0xD9 ∧ decode [0xF8] = .illegalFirst 0xF8 ∧
    decode [0xF9] = .illegalFirst 0xF9 ∧ decode [0xFF] = .illegalFirst 0xFF ∧ decode [0x1F, 0x00] = .illegalSecond 0x00 := by
  decide

theorem test_decode_table_word :
    decodeTableWord 8 0x0F = some .nop ∧ decodeTableWord 24 0x041234 = some (.add_R_R 0x34 0x12) ∧
    decodeTableWord 40 0x1FE8000000 = some (.ldwx_ER_ER 0 0) ∧ decodeTableWord 8 0xFF = none := by
  decide

/-! ### Well-formedness: one ill-formed term for each check -/

theorem test_wellFormed_pairs :
    (Instr.decw_RR 0x43).wellFormed = false ∧ (Instr.incw_RR 0x43).wellFormed = false ∧
    (Instr.mult_RR 0x43).wellFormed = false ∧ (Instr.call_IRR 0x43).wellFormed = false ∧
    (Instr.jp_IRR 0x43).wellFormed = false ∧ (Instr.ldx_R_IRR 0x96 0x23).wellFormed = false ∧
    (Instr.ldx_IR_IRR 0x96 0x23).wellFormed = false ∧ (Instr.ldx_IRR_R 0x23 0x96).wellFormed = false ∧
    (Instr.ldx_IRR_IR 0x23 0x96).wellFormed = false ∧ (Instr.incw_RR 0x42).wellFormed = true := by
  decide

theorem test_wellFormed_working_pairs :
    (Instr.ldc_r_Irr 2 7).wellFormed = false ∧ (Instr.ldc_Ir_Irr 2 7).wellFormed = false ∧
    (Instr.ldc_Irr_r 7 2).wellFormed = false ∧ (Instr.ldci_Ir_Irr 2 7).wellFormed = false ∧
    (Instr.ldci_Irr_Ir 7 2).wellFormed = false ∧ (Instr.lde_r_Irr 2 7).wellFormed = false ∧
    (Instr.lde_Irr_r 7 2).wellFormed = false ∧ (Instr.ldei_Ir_Irr 2 7).wellFormed = false ∧
    (Instr.ldei_Irr_Ir 7 2).wellFormed = false ∧ (Instr.ldx_r_Xrr 1 11 0).wellFormed = false ∧
    (Instr.ldx_Xrr_r 11 0 1).wellFormed = false ∧ (Instr.lea_rr_Xrr 5 2 0).wellFormed = false ∧
    (Instr.lea_rr_Xrr 4 3 0).wellFormed = false ∧ (Instr.lea_rr_Xrr 4 2 0).wellFormed = true := by
  decide

theorem test_wellFormed_words :
    (Instr.ldwx_ER_ER 0x101 0x200).wellFormed = false ∧ (Instr.ldwx_ER_ER 0x100 0x201).wellFormed = false ∧
    (Instr.ldwx_ER_ER 0x100 0x200).wellFormed = true := by
  decide

/-! ### One step (95_test_vectors.md; at address 1000h, and of the end state a few fields) -/

/-- The machine about to run `code` at 1000h with these registers and flags; everything else as at reset. -/
def boot (regs : List Host.Cell) (code : List Byte) (flags : Byte := 0x00) : State :=
  { State.reset with
    pc := 0x1000
    rf := regs
    flags := flags
    pm := (List.range code.length).map fun k => (0x1000 + k, code.getD k 0x00) }

/-- `s` with the Stack Pointer at `v`. -/
def atStack (v : Addr) (s : State) : State := setStackPointer v s

/-- What `f` sees after one step, if there is a next state. -/
def afterStep {α : Type} (s : State) (f : State → α) : Option α := (stateAfter 1 s).map f

theorem test_VA2_add :
    afterStep (boot [(0x000, 0x7F), (0x001, 0x01)] [0x02, 0x01])
      (fun t => (registerValue 0 0x000 t, t.flags, t.pc)) = some (0x80, 0x34, 0x1002) := by
  decide

theorem test_VA3_add :
    afterStep (boot [(0x000, 0x80), (0x001, 0x80)] [0x02, 0x01] 0x20)
      (fun t => (registerValue 0 0x000 t, t.flags)) = some (0x00, 0xD0) := by
  decide

theorem test_VA5_adc :
    afterStep (boot [(0x000, 0xFF)] [0x12, 0x01] 0x80)
      (fun t => (registerValue 0 0x000 t, t.flags)) = some (0x00, 0xC4) := by
  decide

theorem test_VA11_sub :
    afterStep (boot [(0x000, 0x7F), (0x001, 0xFF)] [0x22, 0x01])
      (fun t => (registerValue 0 0x000 t, t.flags)) = some (0x80, 0xB8) := by
  decide

theorem test_VA12_sbc :
    afterStep (boot [(0x001, 0xFF)] [0x32, 0x01] 0x80)
      (fun t => (registerValue 0 0x000 t, t.flags)) = some (0x00, 0xCC) := by
  decide

theorem test_VA15_cp :
    afterStep (boot [(0x000, 0x80), (0x001, 0x01)] [0xA2, 0x01] 0x0C)
      (fun t => (registerValue 0 0x000 t, t.flags)) = some (0x80, 0x1C) := by
  decide

theorem test_VA18_cpc :
    afterStep (boot [(0x000, 0x2A), (0x001, 0x2A)] [0x1F, 0xA2, 0x01])
      (fun t => (t.flags, t.pc)) = some (0x00, 0x1003) := by
  decide

theorem test_VA19_cpc :
    afterStep (boot [(0x000, 0x2A), (0x001, 0x29)] [0x1F, 0xA2, 0x01] 0xC0)
      (fun t => (t.flags, t.pc)) = some (0x40, 0x1003) := by
  decide

theorem test_VA21_addx_escape :
    afterStep { boot [(0x120, 0x90), (0x342, 0x90)] [0x08, 0x12, 0x0E, 0x42] with rp := 0x23 }
      (fun t => (registerValue 0 0x342 t, t.flags, t.pc)) = some (0x20, 0x90, 0x1004) := by
  decide

theorem test_VA24_inc :
    afterStep (boot [(0x000, 0xFF)] [0x0E] 0x80)
      (fun t => (registerValue 0 0x000 t, t.flags, t.pc)) = some (0x00, 0xC0, 0x1001) := by
  decide

theorem test_VA25_dec :
    afterStep (boot [(0x040, 0x80)] [0x30, 0x40])
      (fun t => (registerValue 0 0x040 t, t.flags)) = some (0x7F, 0x10) := by
  decide

theorem test_VA28_incw :
    afterStep (boot [(0x030, 0x7F), (0x031, 0xFF)] [0xA0, 0x30])
      (fun t => (registerValue 0 0x030 t, registerValue 0 0x031 t, t.flags)) = some (0x80, 0x00, 0x30) := by
  decide

theorem test_VA31_decw :
    afterStep (boot [(0x030, 0x80)] [0x80, 0x30])
      (fun t => (registerValue 0 0x030 t, registerValue 0 0x031 t, t.flags)) = some (0x7F, 0xFF, 0x10) := by
  decide

theorem test_VE1_ld_page :
    afterStep { boot [(0x345, 0x77)] [0xE4, 0xE5, 0x20] with rp := 0x43 }
      (fun t => (registerValue 0 0x320 t, t.pc)) = some (0x77, 0x1003) := by
  decide

theorem test_VE4_ld_indexed :
    afterStep (boot [(0x001, 0x10), (0x002, 0x99)] [0xD7, 0x21, 0xF0])
      (fun t => (registerValue 0 0x000 t)) = some (0x99) := by
  decide

theorem test_VE5_ldx_indexed :
    afterStep (boot [(0x00A, 0x05), (0x00B, 0x29), (0x4A9, 0x3C)] [0x88, 0x1A, 0x80])
      (fun t => (registerValue 0 0x001 t)) = some (0x3C) := by
  decide

theorem test_VE7_ldx_pointer :
    afterStep (boot [(0x022, 0xF6), (0x023, 0x55), (0x655, 0x1C)] [0x86, 0x22, 0x96])
      (fun t => (registerValue 0 0x096 t)) = some (0x1C) := by
  decide

theorem test_VE11_ldwx :
    afterStep (boot [(0x234, 0x12), (0x235, 0x34)] [0x1F, 0xE8, 0x23, 0x4F, 0xFE])
      (fun t => (t.sph, t.spl, t.pc)) = some (0x12, 0x34, 0x1005) := by
  decide

theorem test_VE13_lea :
    afterStep (boot [(0x001, 0xFF), (0x003, 0x80)] [0x98, 0x13, 0x80] 0xFC)
      (fun t => (registerValue 0 0x001 t, t.flags)) = some (0x00, 0xFC) := by
  decide

theorem test_VE15_lea_pair :
    afterStep (boot [(0x002, 0xFF), (0x003, 0xF0)] [0x99, 0x42, 0x7F])
      (fun t => (registerValue 0 0x004 t, registerValue 0 0x005 t)) = some (0x00, 0x6F) := by
  decide

theorem test_VE16_push :
    afterStep (atStack 0x100 (boot [(0x020, 0xAB)] [0x70, 0x20]))
      (fun t => (registerValue 0 0x0FF t, t.sph, t.spl)) = some (0xAB, 0x00, 0xFF) := by
  decide

theorem test_VE17_pop :
    afterStep (atStack 0x0FF (boot [(0x0FF, 0xCD)] [0x50, 0x21]))
      (fun t => (registerValue 0 0x021 t, t.sph, t.spl)) = some (0xCD, 0x01, 0x00) := by
  decide

theorem test_VF2_ldc :
    afterStep { boot [(0x006, 0x30), (0x007, 0xA2)] [0xC2, 0x66] with pm := [(0x1000, 0xC2), (0x1001, 0x66), (0x30A2, 0x22)] }
      (fun t => (registerValue 0 0x006 t)) = some (0x22) := by
  decide

theorem test_VF4_ldci_store :
    afterStep (boot [(0x002, 0x20), (0x006, 0x80), (0x020, 0x77)] [0xD3, 0x26])
      (fun t => (registerValue 0 0x002 t, registerValue 0 0x007 t, programByte 0x8000 t)) = some (0x21, 0x01, 0x77) := by
  decide

theorem test_VF5_lde_store :
    afterStep (boot [(0x002, 0x33), (0x006, 0x40), (0x007, 0x4A)] [0x92, 0x26])
      (fun t => (dataByte 0x404A t)) = some (0x33) := by
  decide

theorem test_VF8_ldei_overlap :
    afterStep { boot [(0x002, 0x06), (0x006, 0x40), (0x007, 0x4A)] [0x83, 0x26] with dm := [(0x404A, 0x12)] }
      (fun t => (registerValue 0 0x002 t, registerValue 0 0x006 t, registerValue 0 0x007 t)) = some (0x07, 0x12, 0x4B) := by
  decide

theorem test_VG3_jr :
    afterStep (boot [] [0x8B, 0x80])
      (fun t => (t.pc)) = some (0x0F82) := by
  decide

theorem test_VG10_jr_cc :
    afterStep (boot [] [0x2B, 0x10] 0x40)
      (fun t => (t.pc)) = some (0x1012) := by
  decide

theorem test_VG22_jp :
    afterStep (boot [] [0x8D, 0xF8, 0x18])
      (fun t => (t.pc)) = some (0xF818) := by
  decide

theorem test_VG23_jp_pair :
    afterStep (boot [(0x002, 0x3F), (0x003, 0x45)] [0xC4, 0xE2])
      (fun t => (t.pc)) = some (0x3F45) := by
  decide

theorem test_VG24_djnz :
    afterStep (boot [] [0x6A, 0xF6])
      (fun t => (registerValue 0 0x006 t, t.flags, t.pc)) = some (0xFF, 0x00, 0x0FF8) := by
  decide

theorem test_VG26_btj :
    afterStep (boot [(0x007, 0x20)] [0xF6, 0xD7, 0x01])
      (fun t => (t.pc)) = some (0x1004) := by
  decide

theorem test_VG27_btj :
    afterStep (boot [(0x007, 0x20)] [0xF6, 0x57, 0x01])
      (fun t => (t.pc)) = some (0x1003) := by
  decide

theorem test_VG29_call :
    afterStep (atStack 0x802 (boot [] [0xD6, 0x35, 0x21]))
      (fun t => (registerValue 0 0x800 t, registerValue 0 0x801 t, t.spl, t.pc)) = some (0x10, 0x03, 0x00, 0x3521) := by
  decide

theorem test_VG31_ret :
    afterStep (atStack 0x1A0 (boot [(0x1A0, 0x30), (0x1A1, 0x15)] [0xAF]))
      (fun t => (t.spl, t.pc)) = some (0xA2, 0x3015) := by
  decide

theorem test_VG32_trap :
    afterStep { atStack 0x800 (boot [] [] 0xA0) with irqctl := 0x80, pm := [(0x0068, 0xA0), (0x0069, 0x2F), (0x1000, 0xF2), (0x1001, 0x34)] }
      (fun t => (registerValue 0 0x7FD t, registerValue 0 0x7FE t, registerValue 0 0x7FF t, t.sph, t.spl, t.irqctl, t.pc)) = some (0xA0, 0x10, 0x02, 0x07, 0xFD, 0x80, 0xA02F) := by
  decide

theorem test_VG33_iret :
    afterStep (atStack 0x045 { boot [(0x046, 0x6F), (0x047, 0xE4)] [0xBF] 0xC0 with sph := 0xE0 })
      (fun t => (t.flags, t.irqctl, t.sph, t.spl, t.pc)) = some (0x00, 0x80, 0xE0, 0x48, 0x6FE4) := by
  decide

theorem test_VH2_di :
    afterStep { boot [] [0x8F] with irqctl := 0xFF }
      (fun t => (t.irqctl, t.pc)) = some (0x7F, 0x1001) := by
  decide

theorem test_VH4_halt :
    afterStep (boot [] [0x7F])
      (fun t => (t.mode, t.pc)) = some (.halt, 0x1001) := by
  decide

theorem test_VH6_atm :
    afterStep (boot [] [0x2F])
      (fun t => (t.atm, t.pc)) = some (3, 0x1001) := by
  decide

theorem test_VH8_atm_last :
    afterStep { boot [] [0x0F] with atm := 1 }
      (fun t => (t.atm, t.pc)) = some (0, 0x1001) := by
  decide

theorem test_VH9_atm_inside :
    afterStep { atStack 0x800 (boot [] [] 0x40) with atm := 2, pm := [(0x0006, 0x12), (0x0007, 0x34), (0x1000, 0x2F)] }
      (fun t => (registerValue 0 0x7FD t, registerValue 0 0x7FE t, registerValue 0 0x7FF t, t.atm, t.pc)) = some (0x40, 0x10, 0x00, 0, 0x1234) := by
  decide

theorem test_VH11_illegal_second :
    afterStep { atStack 0x800 (boot [] [] 0x20) with pm := [(0x0006, 0x12), (0x0007, 0x34), (0x1000, 0x1F), (0x1001, 0x00)] }
      (fun t => (registerValue 0 0x7FD t, registerValue 0 0x7FE t, registerValue 0 0x7FF t, t.pc)) = some (0x20, 0x10, 0x00, 0x1234) := by
  decide

theorem test_VH13_interrupt :
    afterStep { atStack 0x800 (boot [] [] 0x44) with pc := 0x2345, irqctl := 0x80, pm := [(0x0014, 0x45), (0x0015, 0x67), (0x2345, 0x0F)], inputs := [.core (.offer 0x0014) []], product := { Product.reference with irqVectors := [0x0014] } }
      (fun t => (registerValue 0 0x7FD t, registerValue 0 0x7FE t, registerValue 0 0x7FF t, t.irqctl, t.outputs)) =
        some (0x44, 0x23, 0x45, 0x00, [.acknowledge 0x0014]) := by
  decide

/-- 20_memory.md R91: DMA writes after ADD has read its source and before it reads its destination; none inside an
atomic block. -/
theorem test_dma_between_two_bytes :
    let s := { boot [(0x020, 0x02), (0x021, 0x03)] [0x04, 0x21, 0x20] with
      inputs := [.core .quiet [[], [.dmaWrite (.register 0x020) 0x10, .dmaWrite (.register 0x021) 0xFF]]]
      product := { Product.reference with dmaAgent := true } }
    afterStep s (fun t => (registerValue 0 0x020 t, registerValue 0 0x021 t)) = some (0x13, 0xFF) ∧
    afterStep { s with atm := 1 } (fun t => (registerValue 0 0x020 t, registerValue 0 0x021 t)) = some (0x05, 0x03) := by
  decide

theorem test_dma_read :
    afterStep { boot [(0x004, 0x02)] [0x0F] with
        inputs := [.agent (.dmaRead (.register 0x004))], product := { Product.reference with dmaAgent := true } }
      (fun t => (t.outputs, t.pc)) = some ([.dmaByte (.register 0x004) 0x02], 0x1000) := by
  decide

/-- 60_exceptions.md R377 (1): a Reset between the push of the low and the high byte by CALL. -/
theorem test_reset_in_the_middle :
    afterStep { atStack 0x802 (boot [] []) with
        pm := [(0x0002, 0x12), (0x0003, 0x34), (0x1000, 0xD6), (0x1001, 0x35), (0x1002, 0x21)]
        inputs := [.core .quiet [[], [.reset]]] }
      (fun t => (t.pc, t.mode, t.midway)) = some (0x1234, .run, []) := by
  decide

/-- 10_state.md R33: the flags at places other than the default's. -/
theorem test_flag_places :
    afterStep { boot [(0x020, 0x80)] [0x90, 0x20] with
        product := { Product.reference with
          flagBit := { c := 0, z := 1, s := 2, v := 3, d := 4, h := 5, f2 := 6, f1 := 7, distinct := by decide } } }
      (fun t => t.flags) = some 0x09 := by
  decide

/-- 60_exceptions.md R381: a time-out through 0004h without a frame, and under the default none. -/
theorem test_timeout :
    afterStep { boot [] [0x0F] with
        pm := [(0x0004, 0x12), (0x0005, 0x34), (0x1000, 0x0F)], wdtOn := true, mode := .halt, inputs := [.core .timeout []]
        product := { Product.reference with
          haltWake := [.watchdogTimeout], watchdog := { onAtReset := false, earliest := 0, action := .vector false false false } } }
      (fun t => (t.pc, t.mode)) = some (0x1234, .run) ∧
    afterStep { boot [] [0x0F] with wdtOn := true, inputs := [.core .timeout []] } (fun t => t.pc) = some 0x1001 := by
  decide

theorem test_VB_logic :
    afterStep (boot [(0x001, 0x38), (0x00E, 0x8D)] [0x52, 0x1E]) (fun t => (registerValue 0 0x001 t, t.flags)) =
      some (0x08, 0x00) ∧
    afterStep (boot [(0x03A, 0xF5), (0x042, 0x0A)] [0x54, 0x42, 0x3A]) (fun t => (registerValue 0 0x03A t, t.flags)) =
      some (0x00, 0x40) := by
  decide

theorem test_VA34_mult :
    afterStep (boot [(0x004, 0xFF), (0x005, 0xFF)] [0xF4, 0xE4] 0xFC)
      (fun t => (registerValue 0 0x004 t, registerValue 0 0x005 t, t.flags)) = some (0xFE, 0x01, 0xFC) := by
  decide

theorem test_VA36_da :
    afterStep (boot [(0x050, 0x9A)] [0x40, 0x50])
      (fun t => (registerValue 0 0x050 t, t.pc)) = some (0x00, 0x1002) := by
  decide

theorem test_VA42_da :
    afterStep (boot [(0x050, 0xCF)] [0x40, 0x50] 0x8C)
      (fun t => (registerValue 0 0x050 t, t.pc)) = some (0x69, 0x1002) := by
  decide

theorem test_VB1_and :
    afterStep (boot [(0x000, 0xF0), (0x001, 0x0F)] [0x52, 0x01] 0x9C)
      (fun t => (registerValue 0 0x000 t, t.flags)) = some (0x00, 0xCC) := by
  decide

theorem test_VB2_or :
    afterStep (boot [(0x000, 0xF0), (0x001, 0x0F)] [0x42, 0x01] 0x10)
      (fun t => (registerValue 0 0x000 t, t.flags)) = some (0xFF, 0x20) := by
  decide

theorem test_VB3_xor :
    afterStep (boot [(0x000, 0xAA), (0x001, 0xAA)] [0xB2, 0x00] 0x80)
      (fun t => (registerValue 0 0x000 t, t.flags)) = some (0x00, 0xC0) := by
  decide

theorem test_VB4_com :
    afterStep (boot [(0x020, 0xFF)] [0x60, 0x20] 0x80)
      (fun t => (registerValue 0 0x020 t, t.flags)) = some (0x00, 0xC0) := by
  decide

theorem test_VB7_or_escape :
    afterStep (boot [(0x005, 0xF0), (0x0E5, 0x0F)] [0x46, 0xE5, 0xAA])
      (fun t => (registerValue 0 0x005 t, registerValue 0 0x0E5 t)) = some (0xFA, 0x0F) := by
  decide

theorem test_VB9_or_pointer :
    afterStep (boot [(0x007, 0xE5), (0x0E5, 0x0F)] [0x47, 0x07, 0xF0])
      (fun t => (registerValue 0 0x0E5 t, t.flags)) = some (0xFF, 0x20) := by
  decide

theorem test_VC1_bit :
    afterStep (boot [] [0xE2, 0xFF] 0xFC)
      (fun t => (registerValue 0 0x00F t, t.flags)) = some (0x80, 0xFC) := by
  decide

theorem test_VC2_bit :
    afterStep (boot [(0x000, 0xFF)] [0xE2, 0x00])
      (fun t => (registerValue 0 0x000 t)) = some (0xFE) := by
  decide

theorem test_VC3_bswap :
    afterStep (boot [(0x021, 0x01)] [0xD5, 0x21] 0x90)
      (fun t => (registerValue 0 0x021 t, t.pc)) = some (0x80, 0x1002) := by
  decide

theorem test_VC8_tcm :
    afterStep (boot [(0x000, 0x7F), (0x001, 0x80)] [0x62, 0x01] 0x80)
      (fun t => (registerValue 0 0x000 t, t.flags)) = some (0x7F, 0xA0) := by
  decide

theorem test_VC10_tm :
    afterStep (boot [(0x000, 0x80), (0x001, 0x80)] [0x72, 0x01] 0x10)
      (fun t => (t.flags)) = some (0x20) := by
  decide

theorem test_VD1_rl :
    afterStep (boot [(0x020, 0x80)] [0x90, 0x20])
      (fun t => (registerValue 0 0x020 t, t.flags)) = some (0x01, 0x90) := by
  decide

theorem test_VD6_rlc :
    afterStep (boot [(0x020, 0x7F)] [0x10, 0x20] 0x80)
      (fun t => (registerValue 0 0x020 t, t.flags)) = some (0xFF, 0x30) := by
  decide

theorem test_VD7_rr :
    afterStep (boot [(0x020, 0x01)] [0xE0, 0x20])
      (fun t => (registerValue 0 0x020 t, t.flags)) = some (0x80, 0xB0) := by
  decide

theorem test_VD11_rrc :
    afterStep (boot [(0x020, 0x80)] [0xC0, 0x20] 0x80)
      (fun t => (registerValue 0 0x020 t, t.flags)) = some (0xC0, 0x20) := by
  decide

theorem test_VD12_sra :
    afterStep (boot [(0x020, 0x80)] [0xD0, 0x20] 0x10)
      (fun t => (registerValue 0 0x020 t, t.flags)) = some (0xC0, 0x20) := by
  decide

theorem test_VD15_srl :
    afterStep (boot [(0x020, 0x80)] [0x1F, 0xC0, 0x20] 0x30)
      (fun t => (registerValue 0 0x020 t, t.flags, t.pc)) = some (0x40, 0x00, 0x1003) := by
  decide

theorem test_VD17_swap :
    afterStep (boot [(0x020, 0x0F)] [0xF0, 0x20] 0x90)
      (fun t => (registerValue 0 0x020 t, t.pc)) = some (0xF0, 0x1002) := by
  decide

theorem test_flags_beside_a_free_one :
    (decimalAdjust 0 .family 0x00 0x9A).flags.c = some true ∧ (decimalAdjust 0 .family 0x00 0x9A).flags.z = some true ∧
    (decimalAdjust 0 .family 0x8C 0xCF).flags.c = some true ∧ (decimalAdjust 0 .family 0x8C 0xCF).flags.h = none ∧
    (reverseBits 0 0x01).flags.s = some true ∧ (reverseBits 0 0x01).flags.v = some false ∧
    (swapNibbles 0 0x0F).flags.s = some true ∧ (swapNibbles 0 0x0F).flags.z = some false := by
  decide

/-! ### Witnesses -/

/-- A state with pointers, pairs and data in its working registers, the Stack Pointer at E00h, NOP next. -/
def sample : State :=
  { boot [(0x002, 0x20), (0x003, 0x31), (0x004, 0x01), (0x005, 0x23), (0x006, 0x40), (0x007, 0x4A), (0x020, 0x77),
      (0x031, 0x9A)] [0x0F] with
    sph := 0x0E, spl := 0x00 }

/-- `sample` on a product with holes in every address space and restricted control registers. -/
def restricted : State :=
  { sample with
    product := { Product.reference with
      rfAvailable := [⟨0x000, 0x7FF⟩, ⟨0xF00, 0xFFA⟩]
      pmAvailable := [⟨0x0000, 0x7FFF⟩]
      pmWritable := [⟨0x4000, 0xFFFF⟩]
      dmAvailable := [⟨0x0000, 0x3FFF⟩]
      readOnly := [⟨0xF00, 0xF00⟩]
      writeOnly := [⟨0xFFA, 0xFFA⟩]
      oddPair := .asIs
      bitopsWriteFlags := true
      brkAction := .endOfRun
      reservedBits := .illegal } }

/-- The Inv premise of RegisterWrites, RegisterPairs, ProgramMemoryAccess, DataMemoryAccess and InvariantKept. -/
theorem witness_Inv : sample.Inv ∧ restricted.Inv :=
  ⟨⟨by decide, by decide, by decide, by decide, by decide, by decide, by decide, by decide, rfl⟩,
    ⟨by decide, by decide, by decide, by decide, by decide, by decide, by decide, by decide, rfl⟩⟩

/-- Every state of these witnesses is undisturbed. -/
theorem witness_Undisturbed :
    Undisturbed sample ∧ Undisturbed restricted ∧ (∀ v, Undisturbed (atStack v sample)) ∧
    (∀ v, Undisturbed (atStack v restricted)) ∧ ∀ v n, Undisturbed { atStack v sample with atm := n } :=
  ⟨rfl, rfl, fun _ => rfl, fun _ => rfl, fun _ _ => rfl⟩

theorem witness_UndefinedOpcodesTrap :
    Undefined (decode (fetchBytes (boot [] [0xFF]))) ∧ Undefined (decode (fetchBytes (boot [] [0x1F, 0xC2]))) ∧
    RoomForFrame 0xFFFF (atStack 0x003 sample) := by
  refine ⟨trivial, trivial, ?_⟩
  simp only [RoomForFrame, RoomForWord, Pushable, Writable]
  decide

theorem witness_FixedNibbles :
    (0x1 : Nib) ≠ 0 ∧ decode [0xC8, 0xFC, 0xA1] = .reserved (.pushx_ER 0xFCA) 3 ∧
    decode (fetchBytes (boot [] [0x09, 0x03, 0xF4, 0x6C])) = .reserved (.addx_ER_IM 0x46C 0x03) 4 ∧
    decode (fetchBytes (boot [] [0xE9, 0x03, 0x14, 0x6C])) = .reserved (.ldx_ER_IM 0x46C 0x03) 4 := by
  decide

/-- Escaped mode reaches E0h to EFh, and E00h to EFFh, with these register pointers only. -/
theorem witness_AddressFunctions :
    (escaped8 0xE5 { sample with rp := 0xE0 }).toNat % 256 / 16 = 14 ∧
    (escaped12 0xE45 { sample with rp := 0x0E }).toNat / 256 = 14 := by
  decide

theorem witness_OperandPlaces :
    Readable (workingAddress 2 sample) sample ∧ Readable (escaped8 0x20 sample) sample ∧
    readPair 0 (escaped8 0xE4 sample) sample = .ok 0x0123 ∧ readPair 0 (workingAddress 6 sample) sample = .ok 0x404A := by
  simp only [Readable]
  decide

theorem witness_RegisterReads :
    (0xFFB : Addr).toNat < 0xFFC ∧ covers sample.product.rfAvailable (0xFFB : Addr).toNat = true ∧
    covers restricted.product.rfAvailable (0xFFB : Addr).toNat = false ∧
    covers restricted.product.rfAvailable (0x800 : Addr).toNat = false := by
  decide

theorem witness_RegisterWrites :
    0xFFC ≤ (0xFFC : Addr).toNat ∧ Plain 0xEFF sample ∧ Plain 0x7FF restricted ∧ available 0xFFB restricted = false ∧
    0xF00 ≤ (0xF00 : Addr).toNat ∧ available 0xF00 sample = true ∧ available 0xFFB sample = true := by
  simp only [Plain]
  decide

theorem witness_AccessRights :
    accessRight 0xFFA restricted = .writeOnly ∧ accessRight 0xF00 restricted = .readOnly ∧
    Readable 0xF00 restricted ∧ Writable 0xFFA restricted ∧
    twoOperand (.addx_ER_IM 0xFFA 1) = some (.add, .ER_IM 0xFFA 1) ∧
    placeAddress 0 (.extended 0xFFA) restricted = .ok 0xFFA ∧ sourceValue (.imm 1) restricted = .ok 1 ∧
    loadOperands (.ldx_ER_IM 0xF00 1) = some (.extended 0xF00, .imm 1) ∧
    placeAddress 0 (.extended 0xF00) restricted = .ok 0xF00 := by
  simp only [Readable, Writable]
  decide

/-- `sample` on a product with a DMA controller, which reads a register between two byte accesses. -/
def dmaSample : State :=
  { sample with
    midway := [[], [.dmaRead (.register 0x004)]]
    product := { Product.reference with dmaAgent := true } }

theorem witness_RegisterPairs :
    (0xEFE : Addr).getLsbD 0 = false ∧ Plain 0xEFE sample ∧ Plain (0xEFE + 1) sample ∧ Readable 0xEFE sample ∧
    Readable (0xEFE + 1) sample ∧ (0x005 : Addr).getLsbD 0 = true ∧ sample.product.oddPair = .forceEven ∧
    restricted.product.oddPair = .asIs ∧ Readable 0x005 restricted ∧ Readable (0x005 + 1) restricted ∧
    dmaSample.product.dmaAgent = true ∧ dmaSample.atm = 0 ∧ Writable 0x004 dmaSample ∧ Writable (0x004 + 1) dmaSample ∧
    dmaSample.midway = [[], [.dmaRead (.register 0x004)]] := by
  simp only [Plain, Readable, Writable]
  decide

theorem witness_ProgramMemoryAccess :
    covers restricted.product.pmAvailable (0x8000 : Word).toNat = false ∧
    covers restricted.product.pmWritable (0x3FFF : Word).toNat = false ∧
    covers restricted.product.pmAvailable (0x7FFF : Word).toNat = true ∧
    covers restricted.product.pmWritable (0x7FFF : Word).toNat = true := by
  decide

theorem witness_DataMemoryAccess :
    covers restricted.product.dmAvailable (0x4000 : Word).toNat = false ∧
    covers restricted.product.dmAvailable (0x3FFF : Word).toNat = true := by
  decide

theorem witness_MemoryWriters :
    goesOn (exec (.ldc_Irr_r 6 2) sample) ∧ goesOn (exec (.lde_Irr_r 6 2) sample) ∧ goesOn (exec .nop sample) :=
  ⟨trivial, trivial, trivial⟩

/-- AddResults, SubtractResults, LogicResult and TwoOperandFrame. -/
theorem witness_combining :
    twoOperand (.add_r_Ir 4 2) = some (.add, .r_Ir 4 2) ∧ twoOperand (.adc_r_Ir 4 2) = some (.adc, .r_Ir 4 2) ∧
    twoOperand (.sub_r_Ir 4 2) = some (.sub, .r_Ir 4 2) ∧ twoOperand (.sbc_r_Ir 4 2) = some (.sbc, .r_Ir 4 2) ∧
    twoOperand (.and_r_Ir 4 2) = some (.and, .r_Ir 4 2) ∧ twoOperand (.or_r_Ir 4 2) = some (.or, .r_Ir 4 2) ∧
    twoOperand (.xor_r_Ir 4 2) = some (.xor, .r_Ir 4 2) ∧
    placeAddress 0 (.working 4) sample = .ok 0x004 ∧ sourceValue (.place (.viaWorking 2)) sample = .ok 0x77 ∧
    Readable 0x004 sample ∧ Writable 0x004 sample := by
  simp only [Readable, Writable]
  decide

/-- CompareResults, MaskTestResult and TwoOperandFrame. -/
theorem witness_testing :
    twoOperand (.cp_R_R 0x31 0x20) = some (.cp, .R_R 0x31 0x20) ∧
    twoOperand (.cpc_R_R 0x31 0x20) = some (.cpc, .R_R 0x31 0x20) ∧
    twoOperand (.tm_R_R 0x31 0x20) = some (.tm, .R_R 0x31 0x20) ∧
    twoOperand (.tcm_R_R 0x31 0x20) = some (.tcm, .R_R 0x31 0x20) ∧
    placeAddress 0 (.short 0x31) sample = .ok 0x031 ∧ sourceValue (.place (.short 0x20)) sample = .ok 0x77 ∧
    Readable 0x031 sample := by
  simp only [Readable]
  decide

theorem witness_TwoOperandFrame :
    goesOn (exec (.add_r_Ir 4 2) sample) ∧ goesOn (exec (.cp_R_R 0x31 0x20) sample) ∧ (0x004 : Addr) ≠ 0xFFC :=
  ⟨trivial, trivial, by decide⟩

/-- IncrementDecrementComplement, RotateShiftTable and OneOperandFrame. -/
theorem witness_modifying :
    oneOperand (.inc_IR 0x03) = some (.inc, .viaShort 0x03) ∧ oneOperand (.dec_IR 0x03) = some (.dec, .viaShort 0x03) ∧
    oneOperand (.com_IR 0x03) = some (.com, .viaShort 0x03) ∧ oneOperand (.rl_IR 0x03) = some (.rl, .viaShort 0x03) ∧
    oneOperand (.rlc_IR 0x03) = some (.rlc, .viaShort 0x03) ∧ oneOperand (.rr_IR 0x03) = some (.rr, .viaShort 0x03) ∧
    oneOperand (.rrc_IR 0x03) = some (.rrc, .viaShort 0x03) ∧ oneOperand (.sra_IR 0x03) = some (.sra, .viaShort 0x03) ∧
    oneOperand (.srl_IR 0x03) = some (.srl, .viaShort 0x03) ∧ oneOperand (.swap_IR 0x03) = some (.swap, .viaShort 0x03) ∧
    oneOperand (.bswap_R 0x31) = some (.bswap, .short 0x31) ∧
    placeAddress 0 (.viaShort 0x03) sample = .ok 0x031 ∧ placeAddress 0 (.short 0x31) sample = .ok 0x031 ∧
    Readable 0x031 sample ∧ Writable 0x031 sample := by
  simp only [Readable, Writable]
  decide

theorem witness_OneOperandFrame :
    goesOn (exec (.inc_IR 0x03) sample) ∧ goesOn (exec (.swap_IR 0x03) sample) ∧ (0x031 : Addr) ≠ 0xFFC :=
  ⟨trivial, trivial, by decide⟩

/-- 9Ah with no flag is the fifth row; its greatest byte FFh is too. -/
theorem witness_DecimalAdjustTable :
    oneOperand (.da_R 0x31) = some (.da, .short 0x31) ∧ registerValue 2 0x031 sample = 0x9A ∧
    DaRowFor sample 0x9A 0x66 true ∧ DaRowFor sample 0xFF 0x66 true ∧
    DaSays true true true 6 6 0x9A true := by
  refine ⟨by decide, by decide, ?_, ?_, ?_⟩
  · exact .inr (.inr (.inr (.inr (.inl (by decide)))))
  · exact .inr (.inr (.inr (.inr (.inl (by decide)))))
  · simp [DaSays]

/-- 9Ah with H alone: its low nibble is above 3. -/
theorem witness_DecimalAdjustOpen :
    oneOperand (.da_R 0x31) = some (.da, .short 0x31) ∧ Undisturbed (withFlags 0x04 sample) ∧
    placeAddress 0 (.short 0x31) (withFlags 0x04 sample) = .ok 0x031 ∧
    registerValue 2 0x031 (withFlags 0x04 sample) = 0x9A ∧ ∀ n c1, ¬ DaRowFor (withFlags 0x04 sample) 0x9A n c1 := by
  refine ⟨by decide, rfl, by decide, by decide, fun n c1 h => ?_⟩
  have hd : flag .d (withFlags 0x04#8 sample) = false := by decide
  have hh : flag .h (withFlags 0x04#8 sample) = true := by decide
  simp [DaRowFor, DaSays, hd, hh] at h

theorem witness_WordCounts :
    wordOperand (.incw_RR 0xE4) = some (true, .short 0xE4) ∧ wordOperand (.decw_RR 0xE4) = some (false, .short 0xE4) ∧
    placeAddress 0 (.short 0xE4) sample = .ok 0x004 ∧ readPair 2 0x004 sample = .ok 0x0123 ∧
    Writable (pairAddress sample.product.oddPair 0x004) sample ∧
    Writable (pairAddress sample.product.oddPair 0x004 + 1) sample := by
  simp only [Writable]
  decide

/-- MultiplyResult, with an even and an odd operand. -/
theorem witness_MultiplyResult :
    Readable (pairAddress sample.product.oddPair (escaped8 0xE4 sample)) sample ∧
    Writable (pairAddress sample.product.oddPair (escaped8 0xE4 sample) + 1) sample ∧
    Readable (pairAddress restricted.product.oddPair (escaped8 0xE5 restricted)) restricted ∧
    Writable (pairAddress restricted.product.oddPair (escaped8 0xE5 restricted) + 1) restricted := by
  simp only [Readable, Writable]
  decide

theorem witness_BitWrites :
    bitWrite (.bit true 7 4) = some (true, 7, 4) ∧ bitWrite (.bclr 0 4) = some (false, 0, 4) ∧
    bitWrite (.bset 7 4) = some (true, 7, 4) ∧ sample.product.bitopsWriteFlags = false ∧
    restricted.product.bitopsWriteFlags = true ∧ Readable (workingAddress 4 sample) sample ∧
    Writable (workingAddress 4 sample) sample ∧ Readable (workingAddress 4 restricted) restricted ∧
    Writable (workingAddress 4 restricted) restricted := by
  simp only [Readable, Writable]
  decide

theorem witness_LoadResult :
    loadOperands (.ldx_r_Xrr 3 4 0x80) = some (.working 3, .place (.pairIndexed 4 0x80)) ∧
    placeAddress 0 (.working 3) sample = .ok 0x003 ∧ sourceValue (.place (.pairIndexed 4 0x80)) sample = .ok 0x00 ∧
    loadOperands (.clr_IR 0x03) = some (.viaShort 0x03, .imm 0x00) ∧
    placeAddress 0 (.viaShort 0x03) sample = .ok 0x031 ∧ sourceValue (.imm 0x00) sample = .ok 0x00 ∧
    Writable 0x003 sample ∧ Writable 0x031 sample := by
  simp only [Writable]
  decide

theorem witness_LoadWordResult :
    Readable (pairAddress sample.product.oddLdwx (escaped12 0x004 sample)) sample ∧
    Readable (pairAddress sample.product.oddLdwx (escaped12 0x004 sample) + 1) sample ∧
    Writable (pairAddress sample.product.oddLdwx (escaped12 0xFFE sample)) sample ∧
    Writable (pairAddress sample.product.oddLdwx (escaped12 0xFFE sample) + 1) sample := by
  simp only [Readable, Writable]
  decide

theorem witness_LoadEffectiveResult :
    Readable (workingAddress 2 sample) sample ∧ Writable (workingAddress 3 sample) sample ∧
    readPair 6 (workingAddress 4 sample) sample = .ok 0x0123 ∧
    Writable (pairAddress sample.product.oddPair (workingAddress 6 sample)) sample ∧
    Writable (pairAddress sample.product.oddPair (workingAddress 6 sample) + 1) sample := by
  simp only [Readable, Writable]
  decide

/-- A push from 001h, a pop at FFEh. -/
theorem witness_PushAndPop :
    pushSource (.push_IM 0x5A) = some (.imm 0x5A) ∧ sourceValue (.imm 0x5A) (atStack 0x001 sample) = .ok 0x5A ∧
    Pushable (atStack 0x001 sample) ∧ popPlace (.pop_R 0x20) = some (.short 0x20) ∧
    placeAddress 0 (.short 0x20) (atStack 0xFFE sample) = .ok 0x020 ∧
    Readable (stackPointer (atStack 0xFFE sample)) (atStack 0xFFE sample) ∧ Writable 0x020 (atStack 0xFFE sample) ∧
    spOf (storeRegister 0x020 (registerValue 6 0xFFE (atStack 0xFFE sample)) (atStack 0xFFE sample)) ≠ 0xFFF := by
  simp only [Readable, Writable, Pushable]
  decide

theorem witness_StackEnds :
    spOf (atStack 0x000 sample) = 0 ∧ sourceValue (.imm 0x5A) (atStack 0x000 sample) = .ok 0x5A ∧
    Readable (stackPointer (atStack 0xFFF sample)) (atStack 0xFFF sample) ∧ Writable 0x020 (atStack 0xFFF sample) ∧
    available (stackPointer (atStack 0xFFF sample)) (atStack 0xFFF sample) = true ∧
    spOf (storeRegister 0x020 (registerValue 6 0xFFF (atStack 0xFFF sample)) (atStack 0xFFF sample)) = 0xFFF ∧
    spOf (atStack 0x001 sample) < 2 ∧ spOf (atStack 0x002 sample) < 3 ∧ 0xFFE ≤ spOf (atStack 0xFFE sample) ∧
    0xFFD ≤ spOf (atStack 0xFFD sample) ∧ available 0x000 (atStack 0x002 sample) = true ∧
    available 0x001 (atStack 0x002 sample) = true := by
  simp only [Readable, Writable]
  decide

/-- The last two clauses of StackEnds: registers 800h to EFFh do not exist here. -/
theorem witness_StackEnds_unavailable :
    spOf (atStack 0x801 restricted) ≠ 0 ∧
    available (stackPointer (atStack 0x801 restricted) - 1) (atStack 0x801 restricted) = false ∧
    Writable (stackPointer (atStack 0x801 restricted) - 1) (atStack 0x801 restricted) ∧
    available (stackPointer (atStack 0x800 restricted)) (atStack 0x800 restricted) = false ∧
    Readable (stackPointer (atStack 0x800 restricted)) (atStack 0x800 restricted) ∧ Writable 0x020 (atStack 0x800 restricted) ∧
    placeAddress 0 (.short 0x20) (atStack 0x800 restricted) = .ok 0x020 ∧
    spOf (storeRegister 0x020 (registerValue 6 0x800 (atStack 0x800 restricted)) (atStack 0x800 restricted)) ≠ 0xFFF := by
  have h : ∀ v, storeRegister 0x020 v (atStack 0x800 restricted) =
      withRf (writeCell rfBlank (atStack 0x800 restricted).rf 0x020 v) (atStack 0x800 restricted) := fun _ => rfl
  rw [h]
  simp only [Readable, Writable, spOf, stackPointer, withRf]
  decide

theorem witness_MemoryLoadResult :
    memoryLoad (.ldc_Ir_Irr 2 6) = some (true, .viaWorking 2, 6) ∧ memoryLoad (.lde_r_Irr 3 6) = some (false, .working 3, 6) ∧
    placeAddress 0 (.viaWorking 2) sample = .ok 0x020 ∧ placeAddress 0 (.working 3) sample = .ok 0x003 ∧
    readPair 4 (workingAddress 6 sample) sample = .ok 0x404A ∧ Writable 0x020 sample ∧ Writable 0x003 sample := by
  simp only [Writable]
  decide

theorem witness_MemoryStoreResult :
    memoryStore (.ldc_Irr_r 6 2) = some (true, 6, 2) ∧ memoryStore (.lde_Irr_r 6 2) = some (false, 6, 2) ∧
    readPair 0 (workingAddress 6 sample) sample = .ok 0x404A ∧ Readable (workingAddress 2 sample) sample := by
  simp only [Readable]
  decide

theorem witness_BlockTransferResult :
    blockLoad (.ldci_Ir_Irr 2 6) = some (true, 2, 6) ∧ blockStore (.ldei_Irr_Ir 6 2) = some (false, 6, 2) ∧
    placeAddress 0 (.viaWorking 2) sample = .ok 0x020 ∧ readPair 4 (workingAddress 6 sample) sample = .ok 0x404A ∧
    readPair 0 (workingAddress 6 sample) sample = .ok 0x404A ∧ sourceValue (.place (.viaWorking 2)) sample = .ok 0x77 ∧
    Writable 0x020 sample ∧ Writable (workingAddress 2 sample) sample ∧
    Writable (pairAddress sample.product.oddPair (workingAddress 6 sample)) sample ∧
    Writable (pairAddress sample.product.oddPair (workingAddress 6 sample) + 1) sample := by
  simp only [Writable]
  decide

theorem witness_CpuControlResult :
    sample.atm = 0 ∧ sample.product.brkAction = .nop ∧ restricted.product.brkAction = .endOfRun := by
  decide

/-- AtomInsideAtom and AtomicBlock, with the fewest instructions left of the block and the Stack Pointer at its lowest. -/
theorem witness_AtomInsideAtom :
    ({ sample with atm := 1 } : State).atm ≠ 0 ∧
    RoomForFrame (sample.pc - 1) { atStack 0x003 sample with atm := 1 } ∧ sample.atm = 0 := by
  simp only [RoomForFrame, RoomForWord, Pushable, Writable]
  decide

theorem witness_AtomicBlock :
    goesOn (runInstruction .nop 1 { sample with atm := 3 }) ∧ Instr.nop ≠ .atm ∧ Instr.nop ≠ .halt ∧ Instr.nop ≠ .stop ∧
    ({ sample with inputs := [.agent (.dmaWrite (.register 0x020) 0x01)], atm := 3 } : State).inputs =
      .agent (.dmaWrite (.register 0x020) 0x01) :: [] ∧
    ({ dmaSample with midway := [[.dmaRead (.data 0)]], atm := 3 } : State).midway = [.dmaRead (.data 0)] :: [] :=
  ⟨trivial, by decide, by decide, by decide, rfl, rfl⟩

theorem witness_JumpResult : readPair 4 (escaped8 0xE4 sample) sample = .ok 0x0123 := by
  decide

theorem witness_BitJumpResult :
    bitJump (.btj_Ir false 7 2 0x80) = some (false, 7, .viaWorking 2, 0x80) ∧
    bitJump (.btjnz_r 0 3 0x7F) = some (true, 0, .working 3, 0x7F) ∧
    sourceValue (.place (.viaWorking 2)) sample = .ok 0x77 ∧ sourceValue (.place (.working 3)) sample = .ok 0x31 := by
  decide

theorem witness_DjnzResult : Readable (workingAddress 6 sample) sample ∧ Writable (workingAddress 6 sample) sample := by
  simp only [Readable, Writable]
  decide

/-- CallAndReturn: the lowest stack a CALL fits in, the highest a RET fits in. -/
theorem witness_CallAndReturn :
    RoomForWord sample.pc (atStack 0x002 sample) ∧ readPair 4 (escaped8 0xE4 (atStack 0x002 sample)) (atStack 0x002 sample) = .ok 0x0123 ∧
    Poppable (atStack 0xFFD sample) ∧ Poppable (popped (atStack 0xFFD sample)) := by
  simp only [RoomForWord, Pushable, Writable, Poppable, Readable]
  decide

/-- CallThenReturn, EntryFrame and TrapThenReturn, at both ends of the stack. -/
theorem witness_PlainStack :
    PlainStack 3 (atStack 0x003 sample) ∧ PlainStack 3 (atStack 0xF00 sample) ∧ PlainStack 2 (atStack 0x002 sample) ∧
    (atStack 0x003 sample).Inv ∧ (atStack 0xF00 sample).Inv ∧ (atStack 0x002 sample).Inv := by
  have key : ∀ v : Addr, ∀ n : Nat, n ≤ spOf (atStack v sample) → spOf (atStack v sample) ≤ 0xF00 → n ≤ 3 →
      (∀ j : Fin 3, available (BitVec.ofNat 12 (spOf (atStack v sample) - (j.val + 1))) (atStack v sample) = true) →
      PlainStack n (atStack v sample) := by
    intro v n h1 h2 h3 h4
    refine ⟨h1, h2, fun j hj hn => ?_⟩
    have := h4 ⟨j - 1, by omega⟩
    simpa [Nat.sub_add_cancel hj] using this
  have inv : ∀ v : Addr, (atStack v sample).Inv := fun v =>
    ⟨witness_Inv.1.rf_wf, witness_Inv.1.pm_wf, witness_Inv.1.dm_wf, witness_Inv.1.rf_own, witness_Inv.1.rf_exists,
      witness_Inv.1.pm_bound, witness_Inv.1.dm_bound, witness_Inv.1.atm_le, rfl⟩
  exact ⟨key _ _ (by decide) (by decide) (by decide) (by decide), key _ _ (by decide) (by decide) (by decide) (by decide),
    key _ _ (by decide) (by decide) (by decide) (by decide), inv _, inv _, inv _⟩

theorem witness_TrapResult : RoomForFrame sample.pc (atStack 0x003 sample) := by
  simp only [RoomForFrame, RoomForWord, Pushable, Writable]
  decide

theorem witness_InterruptReturnResult :
    Poppable (atStack 0xFFC sample) ∧
    Poppable (withFlags (registerValue 0 0xFFC (atStack 0xFFC sample)) (popped (atStack 0xFFC sample))) ∧
    Poppable (popped (withFlags (registerValue 0 0xFFC (atStack 0xFFC sample)) (popped (atStack 0xFFC sample)))) := by
  simp only [Poppable, Readable]
  decide

/-- A product with one interrupt source, every event of the core's modes waking it, and a Watchdog Timer that enters
through its vector. -/
def watched : Product :=
  { Product.reference with
    irqVectors := [0x0008]
    haltWake := [.grantedInterrupt, .maskedRequest]
    watchdog := { onAtReset := false, earliest := 5, action := .vector true true true } }

/-- InterruptStep and InterruptGrant: a request granted in Run mode, one that wakes the core from Halt mode, one that does
neither, a time-out at the earliest, and one too early. -/
theorem witness_InterruptStep :
    granted 0x0008 { sample with irqctl := 0x80, product := watched } = true ∧
    RoomForFrame sample.pc { begun [] { sample with irqctl := 0x80, product := watched } with
      outputs := .acknowledge 0x0008 :: sample.outputs } ∧
    Wakes 0x0008 { sample with irqctl := 0x7F, mode := .halt, product := watched } ∧
    granted 0x0008 { sample with irqctl := 0x80, mode := .stop, product := watched } = false ∧
    ¬ Wakes 0x0008 { sample with irqctl := 0x80, mode := .stop, product := watched } ∧
    TimedOut { sample with irqctl := 0x80, wdtOn := true, wdtStart := 2, tick := 7, product := watched } ∧
    RoomForFrame sample.pc (begun [] { sample with irqctl := 0x80, wdtOn := true, wdtStart := 2, tick := 7, product := watched }) ∧
    ¬ TimedOut { sample with wdtOn := true, wdtStart := 2, tick := 6, product := watched } ∧
    ({ sample with mode := .stop } : State).mode ≠ .run := by
  simp only [RoomForFrame, RoomForWord, Pushable, Writable, Wakes, TimedOut]
  decide

theorem witness_StepRunsDecoded :
    Quiet sample ∧ Quiet { sample with inputs := [.core .quiet [], .agent .reset] } ∧ sample.mode = .run ∧
    decode (fetchBytes sample) = .ok .nop 1 ∧ staleByte sample.stale (sample.pc + BitVec.ofNat 16 4).toNat = none := by
  refine ⟨.inl rfl, .inr rfl, ?_⟩
  decide

theorem witness_ResetEffects :
    ({ sample with inputs := [.agent .reset] } : State).inputs = .agent .reset :: [] ∧
    (∃ s : State, s.inputs = .core .timeout [] :: [] ∧ TimedOut s ∧ s.product.watchdog.action = .reset) ∧
    readPair 0 (workingAddress 6 sample) sample = .ok 0x404A ∧
    sourceValue (.place (.viaWorking 2)) sample = .ok 0x77 := by
  refine ⟨rfl, ⟨{ sample with
    inputs := [.core .timeout []]
    wdtOn := true
    product := { Product.reference with watchdog := { onAtReset := true, earliest := 0, action := .reset } } }, rfl,
    ⟨rfl, by decide⟩, rfl⟩, by decide, by decide⟩

theorem witness_InvariantKept : sample.Inv ∧ goesOn (step sample) := ⟨witness_Inv.1, trivial⟩

end Sys2Proof.Tests
end

/-! ## The condition codes (10_state.md R37) -/

namespace Sys2Proof.Proofs

open Sys2Proof Sys2Proof.Machine Sys2Proof.Claims

/-! ### Decoding an opcode of two nibbles (30_encoding.md R142) -/

@[simp] theorem highNib_append (h l : Nib) : highNib (h ++ l) = h := BitVec.extractLsb'_append_eq_left

@[simp] theorem lowNib_append (h l : Nib) : lowNib (h ++ l) = l := BitVec.extractLsb'_append_eq_right

/-- Only an opcode in column F can be the prefix 1Fh. -/
theorem append_ne_prefix (h : Nib) {l : Nib} (hl : l ≠ 0xF) : h ++ l ≠ (0x1F : Byte) := fun e =>
  hl ((lowNib_append h l).symm.trans (congrArg lowNib e))

/-- Every opcode but the prefix 1Fh is decoded by the first map. -/
theorem decode_of_firstMap {op : Byte} {l : Layout} (rest : List Byte) (hop : op ≠ 0x1F)
    (hl : firstMap op = some l) : decode (op :: rest) = decodeOperands 1 l rest := by
  simp only [decode, if_neg hop, hl]

theorem decodeOperands_oneByte (n : Nat) (f : Byte → Instr) (b : Byte) :
    decodeOperands n (.oneByte f) [b] = .ok (f b) (n + 1) := rfl

theorem decodeOperands_DA (n : Nat) (f : Word → Instr) (hi lo : Byte) :
    decodeOperands n (.DA f) [hi, lo] = .ok (f (hi ++ lo)) (n + 2) := rfl

/-- Column B of the first map is JR cc. -/
theorem firstMap_append_B (n : Nib) : firstMap (n ++ 0xB#4) = some (.oneByte (.jr_cc (condOf n))) := by
  simp [firstMap]

/-- Column D of the first map is JP cc. -/
theorem firstMap_append_D (n : Nib) : firstMap (n ++ 0xD#4) = some (.DA (.jp_cc (condOf n))) := by
  simp [firstMap]

theorem decode_jr_cc (n : Nib) (x : Byte) : decode [n ++ 0xB#4, x] = .ok (.jr_cc (condOf n) x) 2 :=
  (decode_of_firstMap [x] (append_ne_prefix n (by decide)) (firstMap_append_B n)).trans
    (decodeOperands_oneByte 1 _ x)

theorem decode_jp_cc (n : Nib) (hi lo : Byte) :
    decode [n ++ 0xD#4, hi, lo] = .ok (.jp_cc (condOf n) (hi ++ lo)) 3 :=
  (decode_of_firstMap [hi, lo] (append_ne_prefix n (by decide)) (firstMap_append_D n)).trans
    (decodeOperands_DA 1 _ hi lo)

/-! ### Table 2 -/

@[simp] theorem condCode_condOf (n : Nib) : condCode (condOf n) = n := by
  revert n
  decide

/-- A condition holds exactly where the formula of Table 2 under its code does. -/
theorem condHolds_iff_holdsCode (cc : Cond) (l : FlagLayout) (f : Byte) :
    condHolds cc l f = true ↔
      holdsCode (condCode cc).toNat (getFlag l .c f) (getFlag l .z f) (getFlag l .s f) (getFlag l .v f) := by
  cases cc <;> simp [condHolds, condCode, holdsCode]

/-- Inverting bit 3 of a condition's code negates the condition. -/
theorem condHolds_complement (cc : Cond) (l : FlagLayout) (f : Byte) :
    condHolds (condOf (condCode cc ^^^ 0x8)) l f = !condHolds cc l f := by
  cases cc <;> simp [condHolds, condCode, condOf, bne]

/-- Settles O45: a 4-bit code is the code of the condition it stands for, so Table 2 and the complements are read off
condition by condition; the codes in JP cc and JR cc are the upper nibbles that columns B and D of the first map take. -/
theorem conditionCodes : Obligations.ConditionCodes := by
  unfold Obligations.ConditionCodes
  refine ⟨fun n l f => ?table, fun n l f => ?complement,
    fun n x hi lo => ⟨decode_jr_cc n x, decode_jp_cc n hi lo⟩, fun t x => ⟨rfl, rfl⟩⟩
  case table => simpa using condHolds_iff_holdsCode (condOf n) l f
  case complement => simpa using condHolds_complement (condOf n) l f

end Sys2Proof.Proofs

/-! ## Data Memory (20_memory.md R85) -/

namespace Sys2Proof.Proofs

open Sys2Proof Sys2Proof.Machine Sys2Proof.Claims

/-! ### One byte of a memory -/

theorem memoryByte_of_unavailable {available : List Region} {a : Word} (m : List Host.Cell)
    (ha : covers available a.toNat = false) : memoryByte available m a = 0xFF := by
  simp [memoryByte, ha]

theorem memoryByte_writeCell_same {available : List Region} {m : List Host.Cell} {a : Word} (v : Byte)
    (hm : Memory.wf memBlank m = true) (ha : covers available a.toNat = true) :
    memoryByte available (writeCell memBlank m a.toNat v) a = v := by
  simp [memoryByte, ha, readCell_writeCell_same memBlank m a.toNat v hm]

theorem memoryByte_writeCell_other {a b : Word} (available : List Region) (m : List Host.Cell) (v : Byte)
    (hb : b ≠ a) : memoryByte available (writeCell memBlank m a.toNat v) b = memoryByte available m b := by
  have hne : b.toNat ≠ a.toNat := fun e => hb (BitVec.eq_of_toNat_eq e)
  simp only [memoryByte, readCell_writeCell_other memBlank m a.toNat b.toNat v hne]

/-! ### A store to Data Memory -/

theorem writeData_of_unavailable {a : Word} {s : State} (v : Byte)
    (ha : covers s.product.dmAvailable a.toNat = false) : writeData a v s = s := by
  simp [writeData, ha]

theorem writeData_of_available {a : Word} {s : State} (v : Byte)
    (ha : covers s.product.dmAvailable a.toNat = true) :
    writeData a v s = withDm (writeCell memBlank s.dm a.toNat v) s := by
  simp [writeData, ha]

theorem dataByte_writeData_same {a : Word} {s : State} (v : Byte) (hs : Memory.wf memBlank s.dm = true)
    (ha : covers s.product.dmAvailable a.toNat = true) : dataByte a (writeData a v s) = v := by
  rw [writeData_of_available v ha]
  exact memoryByte_writeCell_same v hs ha

theorem dataByte_writeData_other {a b : Word} (v : Byte) (s : State) (hb : b ≠ a) :
    dataByte b (writeData a v s) = dataByte b s := by
  cases ha : covers s.product.dmAvailable a.toNat with
  | false => rw [writeData_of_unavailable v ha]
  | true =>
    rw [writeData_of_available v ha]
    exact memoryByte_writeCell_other s.product.dmAvailable s.dm v hb

@[simp] theorem programByte_writeData (a b : Word) (v : Byte) (s : State) :
    programByte b (writeData a v s) = programByte b s := by
  obtain ⟨dm, h⟩ := writeData_fields a v s
  rw [h]
  rfl

@[simp] theorem registerValue_writeData (k : Nat) (r : Addr) (a : Word) (v : Byte) (s : State) :
    registerValue k r (writeData a v s) = registerValue k r s := by
  obtain ⟨dm, h⟩ := writeData_fields a v s
  rw [h]
  rfl

@[simp] theorem writeData_pc (a : Word) (v : Byte) (s : State) : (writeData a v s).pc = s.pc := by
  obtain ⟨dm, h⟩ := writeData_fields a v s
  rw [h]

/-- Settles O15: where the byte is available the canonical form of Data Memory makes the written byte the one read
back; no other byte, register or field is part of what the store writes. -/
theorem dataMemoryAccess : Obligations.DataMemoryAccess := by
  unfold Obligations.DataMemoryAccess
  intro a v s hs
  refine ⟨fun ha => ⟨?reads, ?ignored⟩, fun ha => ?taken, fun b hb => ?other, fun b => ?program,
    fun r k _ => ?register, ?pc⟩
  case reads => exact memoryByte_of_unavailable s.dm ha
  case ignored => exact writeData_of_unavailable v ha
  case taken => exact dataByte_writeData_same v hs.dm_wf ha
  case other => exact dataByte_writeData_other v s hb
  case program => exact programByte_writeData a b v s
  case register => exact registerValue_writeData k r a v s
  case pc => exact writeData_pc a v s

end Sys2Proof.Proofs

/-! ## The length of an instruction (30_encoding.md R114) -/

namespace Sys2Proof.Proofs

open Sys2Proof Sys2Proof.Machine Sys2Proof.Claims

/-! ### A decoded instruction is as long as its format -/

theorem layout_size_le (l : Layout) : l.size ≤ 3 := by
  cases l <;> simp [Layout.size]

/-- Operand bytes that suffice for the format give an instruction of the format's length, whatever stands in its fixed
nibble. -/
theorem length?_decodeOperands (n : Nat) {l : Layout} {operands : List Byte} (h : l.size ≤ operands.length) :
    (decodeOperands n l operands).length? = some (n + l.size) := by
  simp only [decodeOperands, if_neg (Nat.not_lt.mpr h)]
  split <;> rfl

theorem decode_of_firstMap_none {op : Byte} (rest : List Byte) (hop : op ≠ 0x1F) (hl : firstMap op = none) :
    decode (op :: rest) = .illegalFirst op := by
  simp only [decode, if_neg hop, hl]

theorem decode_of_tableSecond {op2 : Byte} {l : Layout} (operands : List Byte)
    (hl : tableSecond op2.toNat = some l) : decode (0x1F :: op2 :: operands) = decodeOperands 2 l operands := by
  simp only [decode, if_true, hl]

theorem decode_of_tableSecond_none {op2 : Byte} (operands : List Byte) (hl : tableSecond op2.toNat = none) :
    decode (0x1F :: op2 :: operands) = .illegalSecond op2 := by
  simp only [decode, if_true, hl]

/-- On the first map three bytes after the opcode always suffice, and the opcode alone fixes the length. -/
theorem length?_decode_firstMap {op : Byte} {rest : List Byte} (hop : op ≠ 0x1F) (h : 3 ≤ rest.length) :
    (decode (op :: rest)).length? = (firstMap op).map (1 + ·.size) := by
  cases hl : firstMap op with
  | none => rw [decode_of_firstMap_none rest hop hl]; rfl
  | some l => rw [decode_of_firstMap rest hop hl]; exact length?_decodeOperands 1 ((layout_size_le l).trans h)

/-- On the second map three bytes after the two opcode bytes always suffice, and the second one fixes the length. -/
theorem length?_decode_tableSecond (op2 : Byte) {operands : List Byte} (h : 3 ≤ operands.length) :
    (decode (0x1F :: op2 :: operands)).length? = (tableSecond op2.toNat).map (2 + ·.size) := by
  cases hl : tableSecond op2.toNat with
  | none => rw [decode_of_tableSecond_none operands hl]; rfl
  | some l => rw [decode_of_tableSecond operands hl]; exact length?_decodeOperands 2 ((layout_size_le l).trans h)

/-! ### The formats of both maps against the table -/

/-- A number of R114's table as a length, 0 standing for an entry without one. -/
def tableEntry (n : Nat) : Option Nat := if n = 0 then none else some n

/-- Off the second map the byte after the opcode has no part in the length. -/
theorem lengthOf_of_ne_prefix {op : Byte} (op2 : Byte) (hop : op ≠ 0x1F) : lengthOf op op2 = lengthOf op 0 := by
  simp only [lengthOf, if_neg hop]

theorem highNib_append_lowNib (b : Byte) : highNib b ++ lowNib b = b := by
  simp only [highNib, lowNib, BitVec.extractLsb'_append_extractLsb'_eq_extractLsb' (Nat.zero_add 4).symm]
  exact BitVec.extractLsb'_eq_self

/-- The first map against the table, row by row and column by column; 1Fh, which opens the second map, is
left out. -/
theorem firstMap_size_append : ∀ h l : Nib, h ++ l ≠ (0x1F : Byte) →
    (firstMap (h ++ l)).map (1 + ·.size) = tableEntry (lengthOf (h ++ l) 0) := by
  decide

/-- The second map against the table, row by row and column by column. -/
theorem tableSecond_size_append : ∀ h l : Nib,
    (tableSecond (h ++ l : Byte).toNat).map (2 + ·.size) = tableEntry (lengthOf 0x1F (h ++ l)) := by
  decide

theorem firstMap_size {op : Byte} (op2 : Byte) (hop : op ≠ 0x1F) :
    (firstMap op).map (1 + ·.size) = tableEntry (lengthOf op op2) := by
  have h := firstMap_size_append (highNib op) (lowNib op)
  rw [highNib_append_lowNib] at h
  rw [lengthOf_of_ne_prefix op2 hop, h hop]

theorem tableSecond_size (op2 : Byte) : (tableSecond op2.toNat).map (2 + ·.size) = tableEntry (lengthOf 0x1F op2) := by
  have h := tableSecond_size_append (highNib op2) (lowNib op2)
  rwa [highNib_append_lowNib] at h

/-- Settles O4: the length of what is decoded is read off the format that the opcode's map names, and the formats of
both maps have the table's lengths. -/
theorem lengthTable : Obligations.LengthTable := by
  unfold Obligations.LengthTable
  intro op b1 b2 b3 b4
  by_cases hop : op = 0x1F
  case pos =>
    subst hop
    exact (length?_decode_tableSecond b1 (operands := [b2, b3, b4]) (Nat.le_refl 3)).trans (tableSecond_size b1)
  case neg =>
    exact (length?_decode_firstMap hop (rest := [b1, b2, b3, b4]) (Nat.le_succ 3)).trans (firstMap_size b1 hop)

end Sys2Proof.Proofs

/-! ## The addresses operands name (30_encoding.md R120 to R123) -/

namespace Sys2Proof.Proofs

open Sys2Proof Sys2Proof.Machine Sys2Proof.Claims

/-! ### Bit fields as numbers -/

theorem toNat_append_eq_add {m n : Nat} (x : BitVec m) (y : BitVec n) :
    (x ++ y).toNat = x.toNat * 2 ^ n + y.toNat := by
  rw [BitVec.toNat_append, ← Nat.shiftLeft_add_eq_or_of_lt y.isLt, Nat.shiftLeft_eq]

theorem toNat_extractLsb'_eq_mod {w : Nat} (start len : Nat) (x : BitVec w) :
    (x.extractLsb' start len).toNat = x.toNat / 2 ^ start % 2 ^ len := by
  rw [BitVec.extractLsb'_toNat, Nat.shiftRight_eq_div_pow]

/-- The topmost field of a word equals a constant where the quotient by its weight does. -/
theorem extractLsb'_top_eq_iff {w start len : Nat} (x : BitVec w) (c : BitVec len) (hw : w = start + len) :
    x.extractLsb' start len = c ↔ x.toNat / 2 ^ start = c.toNat := by
  have hlt : x.toNat / 2 ^ start < 2 ^ len := by
    refine Nat.div_lt_of_lt_mul ?_
    rw [← Nat.pow_add, ← hw]
    exact x.isLt
  rw [BitVec.toNat_eq, toNat_extractLsb'_eq_mod, Nat.mod_eq_of_lt hlt]

/-! ### `wr` and `pg` -/

/-- R120: page, working group and register number side by side. -/
theorem workingAddress_toNat (n : Nib) (s : State) :
    (workingAddress n s).toNat = s.rp.toNat % 16 * 256 + s.rp.toNat / 16 * 16 + n.toNat := by
  simp only [workingAddress, toNat_append_eq_add, toNat_extractLsb'_eq_mod]
  omega

/-- R121: the page and the byte side by side. -/
theorem pageAddress_toNat (a : Byte) (s : State) :
    (pageAddress a s).toNat = s.rp.toNat % 16 * 256 + a.toNat := by
  simp only [pageAddress, toNat_append_eq_add, toNat_extractLsb'_eq_mod]
  omega

/-- The page of a working register is the one RP[3:0] names. -/
theorem workingAddress_page (n : Nib) (s : State) : (workingAddress n s).toNat / 256 = s.rp.toNat % 16 := by
  have := workingAddress_toNat n s
  omega

/-- The group of a working register is the one RP[7:4] names. -/
theorem workingAddress_group (n : Nib) (s : State) :
    (workingAddress n s).toNat % 256 / 16 = s.rp.toNat / 16 := by
  have := workingAddress_toNat n s
  omega

theorem pageAddress_page (a : Byte) (s : State) : (pageAddress a s).toNat / 256 = s.rp.toNat % 16 := by
  have := pageAddress_toNat a s
  omega

theorem pageAddress_group (a : Byte) (s : State) : (pageAddress a s).toNat % 256 / 16 = a.toNat / 16 := by
  have := pageAddress_toNat a s
  omega

/-! ### `ea8` and `ea12` -/

theorem escaped8_eq (a : Byte) (s : State) :
    escaped8 a s = if a.toNat / 16 = 14 then workingAddress (BitVec.ofNat 4 a.toNat) s else pageAddress a s := by
  simp only [escaped8, extractLsb'_top_eq_iff a 0xE#4 rfl]
  rfl

theorem escaped12_eq (a : Addr) (s : State) :
    escaped12 a s =
      if a.toNat / 16 = 0xEE then workingAddress (BitVec.ofNat 4 a.toNat) s
      else if a.toNat / 256 = 14 then pageAddress (BitVec.ofNat 8 a.toNat) s
      else a := by
  simp only [escaped12, extractLsb'_top_eq_iff a 0xEE#8 rfl, extractLsb'_top_eq_iff a 0xE#4 rfl]
  rfl

/-- R122: group Eh of a page is reached through an 8-bit operand only as the working group, since every operand byte
that would name it directly is escaped. -/
theorem workingGroup_of_escaped8_group {a : Byte} {s : State} (h : (escaped8 a s).toNat % 256 / 16 = 14) :
    s.rp.toNat / 16 = 14 := by
  rw [escaped8_eq] at h
  split at h
  case isTrue => rwa [workingAddress_group] at h
  case isFalse hdirect => exact absurd ((pageAddress_group a s).symm.trans h) hdirect

/-- R123: page Eh is reached through a 12-bit operand only as the current page, since every operand that would name it
directly is escaped. -/
theorem page_of_escaped12_page {a : Addr} {s : State} (h : (escaped12 a s).toNat / 256 = 14) :
    s.rp.toNat % 16 = 14 := by
  rw [escaped12_eq] at h
  split at h
  case isTrue => rwa [workingAddress_page] at h
  case isFalse =>
    split at h
    case isTrue => rwa [pageAddress_page] at h
    case isFalse hdirect => exact absurd h hdirect

/-- Settles O7: an operand lies on RP's page and in RP's group or in its own, and the escape takes away exactly the
operands that would name group Eh or page Eh without RP. -/
theorem addressFunctions : Obligations.AddressFunctions := by
  unfold Obligations.AddressFunctions
  exact ⟨workingAddress_toNat, pageAddress_toNat, escaped8_eq, fun _ _ => workingGroup_of_escaped8_group,
    escaped12_eq, fun _ _ => page_of_escaped12_page⟩

end Sys2Proof.Proofs

/-! ## Arithmetic and logic on the Register File (40_arithmetic.md, 41_bit_manipulation.md section 4, 45_logical.md) -/

namespace Sys2Proof.Proofs

open Sys2Proof Sys2Proof.Machine Sys2Proof.Claims

/-! ### Flags of a result as formulas over its number -/

theorem msb_byte (b : Byte) : b.msb = decide (128 ≤ b.toNat) := BitVec.msb_eq_decide b

theorem msb_word (w : Word) : w.msb = decide (32768 ≤ w.toNat) := BitVec.msb_eq_decide w

theorem addWith_value (c : Bool) (d v : Byte) :
    (addWith c d v).value = BitVec.ofNat 8 (d.toNat + v.toNat + bitNat c) := rfl

/-- R172: the model's flags of an addition are the formulas over the sum of the numbers. -/
theorem addWith_flags (c : Bool) (d v : Byte) : (addWith c d v).flags = addFlags d v (bitNat c) := by
  simp only [addWith, addFlags, ne_eq, msb_byte, decide_eq_decide, BitVec.toNat_eq, BitVec.toNat_ofNat,
    Bool.decide_and]
  rfl

/-- The model pays the borrow from 512, so that its difference is the integer difference modulo 256. -/
theorem subWith_value_toNat (c : Bool) (d v : Byte) :
    (subWith c d v).value.toNat = difference d v (bitNat c) := by
  have hc : bitNat c ≤ 1 := by cases c <;> decide
  simp only [subWith, difference, BitVec.toNat_ofNat]
  omega

theorem subWith_value (c : Bool) (d v : Byte) :
    (subWith c d v).value = BitVec.ofNat 8 (difference d v (bitNat c)) := by
  rw [← subWith_value_toNat, BitVec.ofNat_toNat, BitVec.setWidth_eq]

/-- R173: the model's flags of a subtraction are the formulas over the integer difference. -/
theorem subWith_flags (c : Bool) (d v : Byte) : (subWith c d v).flags = subFlags d v (bitNat c) := by
  simp only [subFlags, ← subWith_value_toNat]
  simp only [subWith, ne_eq, msb_byte, decide_eq_decide, BitVec.toNat_eq, Bool.decide_and]
  rfl

/-- R178: a compare writes C, Z, S, V of the subtraction. -/
theorem compareWith_flags (c : Bool) (d v : Byte) : (compareWith c d v).flags = compareFlags d v (bitNat c) := by
  simp only [compareWith, compareFlags, subWith_flags]

/-- The C flag as a number, in the model's words and in the statements'. -/
theorem bitNat_flag_c (s : State) : bitNat (flag .c s) = carryOf s := rfl

/-- R179: Z stays 1 only where it was 1. -/
theorem compareCarry_flags (d v : Byte) (s : State) :
    (compareCarry s.product.flagBit s.flags d v).flags = stickyFlags (flag .z s) d v (carryOf s) := by
  have hz : (compareWith (flag .c s) d v).value = 0 ↔ difference d v (bitNat (flag .c s)) = 0 := by
    rw [BitVec.toNat_eq, ← subWith_value_toNat]
    rfl
  simp only [stickyFlags, ← bitNat_flag_c, ← hz, ← compareWith_flags, Bool.decide_and, Bool.decide_eq_true]
  rfl

/-- R297: the model's flags of a logical result are the formulas over its number. -/
theorem logic_flags (r : Byte) : (logic r).flags = logicFlags r := by
  simp only [logic, logicFlags, msb_byte, BitVec.toNat_eq]
  rfl

/-- R186: FFh counts up to 00h, as the sum modulo 256 does. -/
theorem increment_value (d : Byte) : (increment d).value = BitVec.ofNat 8 (d.toNat + 1) := by
  simp only [increment]
  bv_omega

theorem increment_flags (d : Byte) : (increment d).flags = countFlags (d + 1) (decide (d.toNat = 127)) := by
  simp only [increment, countFlags, msb_byte, BitVec.toNat_eq]
  rfl

/-- R184: counting down by one is adding 255 modulo 256. -/
theorem decrement_value (d : Byte) : (decrement d).value = BitVec.ofNat 8 (d.toNat + 255) := by
  simp only [decrement]
  bv_omega

theorem decrement_flags (d : Byte) : (decrement d).flags = countFlags (d - 1) (decide (d.toNat = 128)) := by
  simp only [decrement, countFlags, msb_byte, BitVec.toNat_eq]
  rfl

/-- R292: inverting every bit is the complement to 255. -/
theorem complement_value (d : Byte) : (complement d).value = BitVec.ofNat 8 (255 - d.toNat) := by
  simp only [complement, logic]
  bv_omega

/-! ### The two-operand instructions (40_arithmetic.md R170, R171) -/

/-- What a two-operand group computes from its two operands in the state `s`. -/
def binaryAlu (op : Op2) (s : State) : Byte → Byte → AluResult :=
  match op with
  | .add => addWith false
  | .adc => addWith (flag .c s)
  | .sub => subWith false
  | .sbc => subWith (flag .c s)
  | .or => logicalOr
  | .and => logicalAnd
  | .tcm => testComplement
  | .tm => logicalAnd
  | .cp => compareWith false
  | .cpc => compareCarry s.product.flagBit s.flags
  | .xor => logicalXor

/-- Whether a two-operand group stores its result. -/
def storesResult : Op2 → Bool
  | .tcm | .tm | .cp | .cpc => false
  | _ => true

/-- The bytes, row by row of the operand table. -/
theorem encode_twoOperand {i : Instr} {op : Op2} {f : Form} (h : twoOperand i = some (op, f)) :
    encode i = op.bytes f := by
  unfold twoOperand at h
  split at h <;> cases h <;> rfl

/-- Every two-operand instruction is its group's computation on its form's operands, through one of two shapes. -/
theorem exec_twoOperand {i : Instr} {op : Op2} {f : Form} (h : twoOperand i = some (op, f)) (s : State) :
    exec i s = finish (if storesResult op then combine (binaryAlu op s) f.dst f.src s
      else test (binaryAlu op s) f.dst f.src s) := by
  unfold twoOperand at h
  split at h <;> cases h <;> rfl

/-- The results of a group that stores are those of its computation. -/
theorem combines_of_binaryAlu {op : Op2} {r : Byte → Byte → State → Nat} {u : Byte → Byte → State → FlagUpdate}
    (hop : storesResult op = true) (hr : ∀ d v s, (binaryAlu op s d v).value = BitVec.ofNat 8 (r d v s))
    (hu : ∀ d v s, (binaryAlu op s d v).flags = u d v s) : Combines op r u := by
  intro i f s da v hi
  refine ⟨encode_twoOperand hi, fun hs hda hv hread hwrite => ?_⟩
  rw [exec_twoOperand hi, if_pos hop,
    (combine_ok (binaryAlu op s) f.dst f.src s _ hs).mpr ⟨da, v, hda, hv, hread, hwrite, rfl⟩, finish_ok, hr, hu]

/-- The flags of a group that does not store are those of its computation. -/
theorem tests_of_binaryAlu {op : Op2} {u : Byte → Byte → State → FlagUpdate} (hop : storesResult op = false)
    (hu : ∀ d v s, (binaryAlu op s d v).flags = u d v s) : Tests op u := by
  intro i f s da v hi
  refine ⟨encode_twoOperand hi, fun hs hda hv hread => ?_⟩
  rw [exec_twoOperand hi, hop, if_neg Bool.false_ne_true,
    (test_ok (binaryAlu op s) f.dst f.src s _ hs).mpr ⟨da, v, hda, hv, hread, rfl⟩, finish_ok, hu]

/-- Settles O17: ADD and ADC are the one addition, without and with the C flag as carry in. -/
theorem addResults : Obligations.AddResults := by
  unfold Obligations.AddResults
  constructor
  case left =>
    exact combines_of_binaryAlu rfl (fun d v _ => addWith_value false d v) fun d v _ => addWith_flags false d v
  case right =>
    exact combines_of_binaryAlu rfl (fun d v s => addWith_value (flag .c s) d v)
      fun d v s => addWith_flags (flag .c s) d v

/-- Settles O18: SUB and SBC are the one subtraction, without and with the C flag as borrow in. -/
theorem subtractResults : Obligations.SubtractResults := by
  unfold Obligations.SubtractResults
  constructor
  case left =>
    exact combines_of_binaryAlu rfl (fun d v _ => subWith_value false d v) fun d v _ => subWith_flags false d v
  case right =>
    exact combines_of_binaryAlu rfl (fun d v s => subWith_value (flag .c s) d v)
      fun d v s => subWith_flags (flag .c s) d v

/-- Settles O19: CP and CPC write flags of the subtraction and store nothing, CPC with Z only where it was set. -/
theorem compareResults : Obligations.CompareResults := by
  unfold Obligations.CompareResults
  constructor
  case left => exact tests_of_binaryAlu rfl fun d v _ => compareWith_flags false d v
  case right => exact tests_of_binaryAlu rfl compareCarry_flags

/-! ### The one-operand instructions -/

/-- What a one-operand instruction computes from its operand in the state `s`. -/
def unaryAlu (op : Op1) (s : State) : Byte → AluResult :=
  match op with
  | .inc => increment
  | .dec => decrement
  | .com => complement
  | .rl => rotateLeft
  | .rlc => rotateLeftCarry (flag .c s)
  | .rr => rotateRight
  | .rrc => rotateRightCarry (flag .c s)
  | .sra => shiftRightArithmetic
  | .srl => shiftRightLogical s.product.srlV
  | .swap => swapNibbles s.tick
  | .bswap => reverseBits s.tick
  | .da => decimalAdjust s.tick s.product.flagBit s.flags

/-- The bytes, row by row of the operand table; SRL and INC r1 are the rows out of line. -/
theorem encode_oneOperand {i : Instr} {op : Op1} {p : Place} (h : oneOperand i = some (op, p)) :
    encode i = op.bytes p := by
  unfold oneOperand at h
  split at h <;> cases h <;> rfl

/-- Every one-operand instruction is its computation on its operand, through one shape. -/
theorem exec_oneOperand {i : Instr} {op : Op1} {p : Place} (h : oneOperand i = some (op, p)) (s : State) :
    exec i s = finish (modify (unaryAlu op s) p s) := by
  unfold oneOperand at h
  split at h <;> cases h <;> rfl

/-- The result of a one-operand instruction is that of its computation. -/
theorem modifies_of_unaryAlu {op : Op1} {r : Byte → State → Nat} {u : Byte → State → FlagUpdate}
    (hr : ∀ d s, (unaryAlu op s d).value = BitVec.ofNat 8 (r d s)) (hu : ∀ d s, (unaryAlu op s d).flags = u d s) :
    Modifies op r u := by
  intro i p s da hi
  refine ⟨encode_oneOperand hi, fun hs hda hread hwrite => ?_⟩
  rw [exec_oneOperand hi, (modify_ok (unaryAlu op s) p s _ hs).mpr ⟨da, hda, hread, hwrite, rfl⟩, finish_ok, hr, hu]

/-- Settles O24: each of the three is a function of its operand alone, and the formulas are that function's. -/
theorem incrementDecrementComplement : Obligations.IncrementDecrementComplement := by
  unfold Obligations.IncrementDecrementComplement
  refine ⟨?inc, ?dec, ?com⟩
  case inc => exact modifies_of_unaryAlu (fun d _ => increment_value d) fun d _ => increment_flags d
  case dec => exact modifies_of_unaryAlu (fun d _ => decrement_value d) fun d _ => decrement_flags d
  case com => exact modifies_of_unaryAlu (fun d _ => complement_value d) fun d _ => logic_flags (~~~d)

/-! ### A 16-bit number on a register pair -/

/-- A pair takes a number most significant byte first. -/
theorem writePair_ofNat {a : Addr} {s : State} (n : Nat) (hs : Undisturbed s)
    (hhigh : Writable (pairAddress s.product.oddPair a) s) (hlow : Writable (pairAddress s.product.oddPair a + 1) s) :
    writePair a (BitVec.ofNat 16 n) s = .ok (storeRegister (pairAddress s.product.oddPair a + 1) (BitVec.ofNat 8 n)
      (storeRegister (pairAddress s.product.oddPair a) (BitVec.ofNat 8 (n / 256)) s)) := by
  have low : (BitVec.ofNat 16 n).extractLsb' 0 8 = BitVec.ofNat 8 n := by
    rw [BitVec.toNat_eq, toNat_extractLsb'_eq_mod, BitVec.toNat_ofNat, BitVec.toNat_ofNat]
    omega
  have high : (BitVec.ofNat 16 n).extractLsb' 8 8 = BitVec.ofNat 8 (n / 256) := by
    rw [BitVec.toNat_eq, toNat_extractLsb'_eq_mod, BitVec.toNat_ofNat, BitVec.toNat_ofNat]
    omega
  exact (writePair_ok a (BitVec.ofNat 16 n) s _ hs).mpr ⟨hhigh, hlow, by rw [low, high]⟩

/-- INCW or DECW on the pair's value. -/
def countWord (up : Bool) : Word → Word × FlagUpdate := if up then incrementWord else decrementWord

/-- The pair's value counted by one modulo 65536. -/
def counted (up : Bool) (w : Word) : Nat := if up then (w.toNat + 1) % 65536 else (w.toNat + 65535) % 65536

theorem countWord_value_toNat (up : Bool) (w : Word) : (countWord up w).1.toNat = counted up w := by
  cases up with
  | false => simp only [countWord, decrementWord, counted, Bool.false_eq_true, if_false]; bv_omega
  | true => simp only [countWord, incrementWord, counted, if_true]; bv_omega

theorem countWord_value (up : Bool) (w : Word) : (countWord up w).1 = BitVec.ofNat 16 (counted up w) := by
  rw [← countWord_value_toNat, BitVec.ofNat_toNat, BitVec.setWidth_eq]

/-- R185, R187: Z, S and V are those of the 16-bit result. -/
theorem countWord_flags (up : Bool) (w : Word) :
    (countWord up w).2 =
      { z := some (decide (counted up w = 0)), s := some (decide (32768 ≤ counted up w))
        v := some (decide (w.toNat = if up then 32767 else 32768)) } := by
  rw [← countWord_value_toNat]
  cases up with
  | false => simp only [countWord, decrementWord, msb_word, BitVec.toNat_eq, Bool.false_eq_true, if_false]; rfl
  | true => simp only [countWord, incrementWord, msb_word, BitVec.toNat_eq, if_true]; rfl

/-- INCW and DECW are the one count on their operand's pair. -/
theorem exec_wordOperand {i : Instr} {up : Bool} {p : Place} (h : wordOperand i = some (up, p)) (s : State) :
    exec i s = finish (modifyPair (countWord up) p s) := by
  unfold wordOperand at h
  split at h <;> cases h <;> rfl

theorem encode_wordOperand_short {i : Instr} {up : Bool} {a : Byte} (h : wordOperand i = some (up, .short a)) :
    encode i = [if up then 0xA0 else 0x80, a] := by
  unfold wordOperand at h
  split at h <;> cases h <;> rfl

theorem encode_wordOperand_viaShort {i : Instr} {up : Bool} {a : Byte}
    (h : wordOperand i = some (up, .viaShort a)) : encode i = [if up then 0xA1 else 0x81, a] := by
  unfold wordOperand at h
  split at h <;> cases h <;> rfl

/-- Settles O29: INCW and DECW count the pair's value as a 16-bit number and write it back as one. -/
theorem wordCounts : Obligations.WordCounts := by
  unfold Obligations.WordCounts
  intro i up p s da w hi hs hda hw hhigh hlow
  refine ⟨fun a hp => ?short, fun a hp => ?viaShort, ?result⟩
  case short => exact encode_wordOperand_short (hp ▸ hi)
  case viaShort => exact encode_wordOperand_viaShort (hp ▸ hi)
  case result =>
    have written := writePair_ofNat (counted up w) hs hhigh hlow
    rw [← countWord_value] at written
    rw [exec_wordOperand hi,
      (modifyPair_ok (countWord up) p s _ hs).mpr ⟨da, w, _, hda, hw, written, rfl⟩, finish_ok, countWord_flags]
    rfl

theorem exec_mult_RR (b : Byte) (s : State) : exec (.mult_RR b) s = finish (multiply (.short b) s) := rfl

/-- MULT answers the product of the pair's two bytes, written back to the pair. -/
theorem multiply_ok (dst : Place) (s t : State) (h : Undisturbed s) :
    multiply dst s = .ok t ↔ ∃ da w, placeAddress 0 dst s = .ok da ∧ readPair 2 da s = .ok w ∧
      writePair da (BitVec.ofNat 16 ((w.extractLsb' 8 8).toNat * (w.extractLsb' 0 8).toNat)) s = .ok t := by
  unfold multiply
  simp only [bind_ok]
  constructor
  · rintro ⟨⟨da, s1⟩, hplace, ⟨w, s2⟩, hpair, hwrite⟩
    obtain ⟨hda, rfl⟩ := (accessPlace_ok _ _ _ _ _ h).mp hplace
    obtain ⟨hw, rfl⟩ := (accessPair_ok _ _ _ _ _ h).mp hpair
    exact ⟨da, w, hda, hw, hwrite⟩
  · rintro ⟨da, w, hda, hw, hwrite⟩
    exact ⟨_, (accessPlace_ok _ _ _ _ _ h).mpr ⟨hda, rfl⟩, _, (accessPair_ok _ _ _ _ _ h).mpr ⟨hw, rfl⟩, hwrite⟩

/-- Settles O30: the product of two bytes is a number below 65536 that the pair takes as it takes any other. -/
theorem multiplyResult : Obligations.MultiplyResult := by
  unfold Obligations.MultiplyResult
  intro b s a hs hreadHigh hreadLow hwriteHigh hwriteLow
  refine ⟨rfl, ?result⟩
  have pair : readPair 2 (escaped8 b s) s = .ok (registerValue 2 a s ++ registerValue 3 (a + 1) s) :=
    (readPair_ok 2 (escaped8 b s) s _ hs).mpr ⟨hreadHigh, hreadLow, rfl⟩
  have written := writePair_ofNat (a := escaped8 b s)
    ((registerValue 2 a s).toNat * (registerValue 3 (a + 1) s).toNat) hs hwriteHigh hwriteLow
  rw [exec_mult_RR, (multiply_ok (.short b) s _ hs).mpr ⟨escaped8 b s, _, rfl, pair, ?product⟩, finish_ok]
  rw [BitVec.extractLsb'_append_eq_left, BitVec.extractLsb'_append_eq_right]
  exact written

end Sys2Proof.Proofs

/-! ## Bit manipulation (41_bit_manipulation.md) -/

namespace Sys2Proof.Proofs

open Sys2Proof Sys2Proof.Machine Sys2Proof.Claims

/-! ### What a flag update changes (10_state.md section 4.1) -/

/-- A flag update gives each flag it names its new value and leaves the others. -/
theorem flag_updateFlags (f : Flag) (u : FlagUpdate) (s : State) :
    flag f (updateFlags u s) = (updateOf u f).getD (flag f s) :=
  getFlag_applyUpdate s.product.flagBit u f s.flags

theorem updateFlags_none (s : State) : updateFlags {} s = s := rfl

theorem sameOutside_updateFlags (u : FlagUpdate) (s : State) : SameOutside s (updateFlags u s) where
  pc := rfl
  program _ := rfl
  data _ := rfl
  atm := rfl
  mode := rfl
  wdtOn := rfl
  stale := rfl
  wdtStart := rfl
  inputs := rfl
  outputs := rfl
  midway := rfl
  tick := rfl
  product := rfl

/-- A flag update is a write of FLAGS, and every other register reads as it did. -/
theorem sameRegistersBut_updateFlags (u : FlagUpdate) (s : State) :
    SameRegistersBut (· = 0xFFC) s (updateFlags u s) := fun a k ha =>
  registerValue_storeRegister_other k 0xFFC a (applyUpdate s.product.flagBit u s.flags) s ha

/-! ### The carry instructions (R214 to R216) -/

theorem exec_ccf (s : State) : exec .ccf s = .next (setCarry (!flag .c s) s) := rfl

theorem exec_rcf (s : State) : exec .rcf s = .next (setCarry false s) := rfl

theorem exec_scf (s : State) : exec .scf s = .next (setCarry true s) := rfl

@[simp] theorem flag_c_setCarry (c : Bool) (s : State) : flag .c (setCarry c s) = c :=
  flag_updateFlags .c { c := some c } s

theorem flag_setCarry_other {f : Flag} (c : Bool) (s : State) (hf : f ≠ .c) : flag f (setCarry c s) = flag f s := by
  rw [setCarry, flag_updateFlags]
  cases f with
  | c => exact absurd rfl hf
  | z | s | v | d | h | f2 | f1 => rfl

/-- What the three instructions leave alone, whatever C they set. -/
theorem setCarry_frame (c : Bool) (s : State) :
    SameOutside s (setCarry c s) ∧ SameRegistersBut (· = 0xFFC) s (setCarry c s) ∧
      ∀ f : Flag, f ≠ .c → flag f (setCarry c s) = flag f s :=
  ⟨sameOutside_updateFlags _ s, sameRegistersBut_updateFlags _ s, fun _ hf => flag_setCarry_other c s hf⟩

/-- Settles O32: each of the three sets C to a value of its own, through the one update of C alone. -/
theorem carryInstructions : Obligations.CarryInstructions := by
  unfold Obligations.CarryInstructions
  refine ⟨rfl, rfl, rfl, fun s => ⟨_, _, _, exec_ccf s, exec_rcf s, exec_scf s, flag_c_setCarry _ s,
    flag_c_setCarry _ s, flag_c_setCarry _ s, ?frame⟩⟩
  rintro t (rfl | rfl | rfl)
  case frame.inl => exact setCarry_frame _ s
  case frame.inr.inl => exact setCarry_frame _ s
  case frame.inr.inr => exact setCarry_frame _ s

/-! ### The mask tests (R217 to R220) -/

/-- Settles O21: TCM and TM are the logical AND with the destination inverted or as it is, and store nothing. -/
theorem maskTestResult : Obligations.MaskTestResult := by
  unfold Obligations.MaskTestResult
  constructor
  case left => exact tests_of_binaryAlu rfl fun d v _ => logic_flags (~~~d &&& v)
  case right => exact tests_of_binaryAlu rfl fun d v _ => logic_flags (d &&& v)

/-! ### Writing one bit (R210 to R212) -/

/-- The mask of bit `i` has that bit alone. -/
theorem getLsbD_bitMask (i : Nat) {j : Nat} (hj : j < 8) : (1#8 <<< i).getLsbD j = decide (j = i) := by
  rw [← BitVec.twoPow_eq, BitVec.getLsbD_twoPow, ← Bool.decide_and, decide_eq_decide]
  omega

/-- R210: the selected bit takes the polarity, the other seven are the operand's. -/
theorem getLsbD_replaceBit_value (writeFlags p : Bool) (b : BitNo) (d : Byte) {j : Nat} (hj : j < 8) :
    (replaceBit writeFlags p b d).value.getLsbD j = if j = b.toNat then p else d.getLsbD j := by
  cases p with
  | false =>
    simp only [replaceBit, Bool.false_eq_true, if_false, BitVec.getLsbD_and, BitVec.getLsbD_not, getLsbD_bitMask _ hj]
    by_cases h : j = b.toNat <;> simp [h, hj]
  | true =>
    simp only [replaceBit, if_true, BitVec.getLsbD_or, getLsbD_bitMask _ hj]
    by_cases h : j = b.toNat <;> simp [h]

/-- R210: the flags are those of a logical result, or none, by `BITOPS_WRITE_FLAGS`. -/
theorem replaceBit_flags (writeFlags p : Bool) (b : BitNo) (d : Byte) :
    (replaceBit writeFlags p b d).flags =
      if writeFlags = true then logicFlags (replaceBit writeFlags p b d).value else {} := by
  rw [← logic_flags]
  rfl

/-- The second byte of BIT as a number: polarity, bit number and register side by side. -/
theorem bitByte_eq_ofNat (p : Bool) (b : BitNo) (n : Nib) :
    bitByte p b n = BitVec.ofNat 8 (p.toNat * 128 + b.toNat * 16 + n.toNat) := by
  have := p.toNat_le
  rw [BitVec.toNat_eq, bitByte, toNat_append_eq_add, toNat_append_eq_add, BitVec.toNat_ofBool, BitVec.toNat_ofNat]
  omega

theorem encode_bitWrite {i : Instr} {p : Bool} {b : BitNo} {n : Nib} (h : bitWrite i = some (p, b, n)) :
    encode i = [0xE2, bitByte p b n] := by
  unfold bitWrite at h
  split at h <;> cases h <;> rfl

/-- BIT, BCLR and BSET are the one bit replacement on a working register. -/
theorem exec_bitWrite {i : Instr} {p : Bool} {b : BitNo} {n : Nib} (h : bitWrite i = some (p, b, n)) (s : State) :
    exec i s = finish (modify (replaceBit s.product.bitopsWriteFlags p b) (.working n) s) := by
  unfold bitWrite at h
  split at h <;> cases h <;> rfl

/-- Settles O31: the byte that the replacement answers is the witness, and an update with no flag changes nothing. -/
theorem bitWrites : Obligations.BitWrites := by
  unfold Obligations.BitWrites
  intro i p b n s hi hs hread hwrite
  refine ⟨(replaceBit s.product.bitopsWriteFlags p b (registerValue 2 (workingAddress n s) s)).value,
    fun j hj => getLsbD_replaceBit_value _ p b _ hj, ?bytes, ?result⟩
  case bytes => rw [encode_bitWrite hi, bitByte_eq_ofNat]
  case result =>
    rw [exec_bitWrite hi,
      (modify_ok _ (.working n) s _ hs).mpr ⟨workingAddress n s, rfl, hread, hwrite, rfl⟩, finish_ok, replaceBit_flags]
    split
    case isTrue => rfl
    case isFalse => rw [updateFlags_none]

end Sys2Proof.Proofs

/-! ## LDWX and LEA (44_load.md) -/

namespace Sys2Proof.Proofs

open Sys2Proof Sys2Proof.Machine Sys2Proof.Claims

/-! ### What a register write leaves unchanged (20_memory.md R79) -/

theorem sameOutside_storeRegister (a : Addr) (v : Byte) (s : State) : SameOutside s (storeRegister a v s) where
  pc := storeRegister_pc a v s
  program b := by simp only [programByte, storeRegister_pm, storeRegister_product]
  data b := by simp only [dataByte, storeRegister_dm, storeRegister_product]
  atm := storeRegister_atm a v s
  mode := storeRegister_mode a v s
  wdtOn := storeRegister_wdtOn a v s
  stale := storeRegister_stale a v s
  wdtStart := storeRegister_wdtStart a v s
  inputs := storeRegister_inputs a v s
  outputs := storeRegister_outputs a v s
  midway := storeRegister_midway a v s
  tick := storeRegister_tick a v s
  product := storeRegister_product a v s

theorem sameOutside_trans {s t u : State} (h : SameOutside s t) (k : SameOutside t u) : SameOutside s u where
  pc := k.pc.trans h.pc
  program b := (k.program b).trans (h.program b)
  data b := (k.data b).trans (h.data b)
  atm := k.atm.trans h.atm
  mode := k.mode.trans h.mode
  wdtOn := k.wdtOn.trans h.wdtOn
  stale := k.stale.trans h.stale
  wdtStart := k.wdtStart.trans h.wdtStart
  inputs := k.inputs.trans h.inputs
  outputs := k.outputs.trans h.outputs
  midway := k.midway.trans h.midway
  tick := k.tick.trans h.tick
  product := k.product.trans h.product

theorem sameRegistersBut_storeRegister (a : Addr) (v : Byte) (s : State) :
    SameRegistersBut (· = a) s (storeRegister a v s) := fun b k hb =>
  registerValue_storeRegister_other k a b v s hb

/-- Two stretches of a run change what either of them does. -/
theorem sameRegistersBut_trans {P Q : Addr → Prop} {s t u : State} (h : SameRegistersBut P s t)
    (k : SameRegistersBut Q t u) : SameRegistersBut (fun a => P a ∨ Q a) s u := fun a n ha =>
  (k a n fun q => ha (.inr q)).trans (h a n fun p => ha (.inl p))

/-! ### LDWX (R268) -/

theorem exec_ldwx_ER_ER (dst src : Addr) (s : State) : exec (.ldwx_ER_ER dst src) s = finish (loadWord dst src s) := rfl

/-- The destination bytes are those of the state before the instruction, whatever overlap the two operands have. -/
theorem loadWord_ok (dst src : Addr) (s t : State) (h : Undisturbed s) :
    loadWord dst src s = .ok t ↔
      Readable (pairAddress s.product.oddLdwx (escaped12 src s)) s ∧
      Readable (pairAddress s.product.oddLdwx (escaped12 src s) + 1) s ∧
      Writable (pairAddress s.product.oddLdwx (escaped12 dst s)) s ∧
      Writable (pairAddress s.product.oddLdwx (escaped12 dst s) + 1) s ∧
      t = storeRegister (pairAddress s.product.oddLdwx (escaped12 dst s) + 1)
        (registerValue 7 (pairAddress s.product.oddLdwx (escaped12 src s) + 1) s)
        (storeRegister (pairAddress s.product.oddLdwx (escaped12 dst s))
          (registerValue 6 (pairAddress s.product.oddLdwx (escaped12 src s)) s) s) := by
  unfold loadWord
  simp only [bind_ok]
  constructor
  · rintro ⟨⟨w, s1⟩, hread, hwrite⟩
    obtain ⟨readHigh, readLow, rfl, rfl⟩ := (accessTwo_ok _ _ _ _ _ h).mp hread
    obtain ⟨writeHigh, writeLow, rfl⟩ := (writeTwo_ok _ _ _ _ h).mp hwrite
    rw [BitVec.extractLsb'_append_eq_left, BitVec.extractLsb'_append_eq_right]
    exact ⟨readHigh, readLow, writeHigh, writeLow, rfl⟩
  · rintro ⟨readHigh, readLow, writeHigh, writeLow, rfl⟩
    refine ⟨_, (accessTwo_ok _ _ _ _ _ h).mpr ⟨readHigh, readLow, rfl, rfl⟩,
      (writeTwo_ok _ _ _ _ h).mpr ⟨writeHigh, writeLow, ?_⟩⟩
    rw [BitVec.extractLsb'_append_eq_left, BitVec.extractLsb'_append_eq_right]

/-- Settles O34: the word read is the word written, and each of the two writes changes one register. -/
theorem loadWordResult : Obligations.LoadWordResult := by
  unfold Obligations.LoadWordResult
  intro dst src s da sa hs readHigh readLow writeHigh writeLow
  refine ⟨rfl, ?next, ?outside, ?registers⟩
  case next =>
    rw [exec_ldwx_ER_ER, (loadWord_ok dst src s _ hs).mpr ⟨readHigh, readLow, writeHigh, writeLow, rfl⟩, finish_ok]
  case outside => exact sameOutside_trans (sameOutside_storeRegister da _ s) (sameOutside_storeRegister (da + 1) _ _)
  case registers =>
    exact sameRegistersBut_trans (sameRegistersBut_storeRegister da _ s) (sameRegistersBut_storeRegister (da + 1) _ _)

/-! ### LEA (R272) -/

theorem exec_lea_r_Xr (dst base : Nib) (x : Byte) (s : State) :
    exec (.lea_r_Xr dst base x) s = finish (loadEffective dst base x s) := rfl

theorem exec_lea_rr_Xrr (dst base : Nib) (x : Byte) (s : State) :
    exec (.lea_rr_Xrr dst base x) s = finish (loadEffectivePair dst base x s) := rfl

/-- A displacement widened to the base's width adds as the signed number it stands for. -/
theorem add_signExtend_eq_ofInt {m n : Nat} (b : BitVec n) (x : BitVec m) :
    b + x.signExtend n = BitVec.ofInt n (b.toNat + x.toInt) := by
  rw [BitVec.ofInt_add, BitVec.ofInt_natCast, BitVec.ofNat_toNat, BitVec.setWidth_eq]
  rfl

/-- At the displacement's own width nothing is widened. -/
theorem add_eq_ofInt {n : Nat} (b x : BitVec n) : b + x = BitVec.ofInt n (b.toNat + x.toInt) := by
  rw [← add_signExtend_eq_ofInt, BitVec.signExtend_eq]

/-- The 16-bit sum as a number. -/
theorem add_signExtend_toNat (w : Word) (x : Byte) :
    ((w + x.signExtend 16).toNat : Int) = ((w.toNat : Int) + x.toInt) % 65536 := by
  rw [add_signExtend_eq_ofInt, BitVec.toNat_ofInt]
  omega

/-- LEA r1 writes the sum where the base can be read and the destination written. -/
theorem loadEffective_ok (dst base : Nib) (x : Byte) (s t : State) (h : Undisturbed s) :
    loadEffective dst base x s = .ok t ↔ Readable (workingAddress base s) s ∧ Writable (workingAddress dst s) s ∧
      t = storeRegister (workingAddress dst s) (registerValue 6 (workingAddress base s) s + x) s := by
  unfold loadEffective
  simp only [bind_ok]
  constructor
  · rintro ⟨⟨b, s1⟩, hread, hwrite⟩
    obtain ⟨readable, rfl, rfl⟩ := (accessRegister_ok _ _ _ _ _ h).mp hread
    exact ⟨readable, (writeRegister_ok _ _ _ _ h).mp hwrite⟩
  · rintro ⟨readable, hwrite⟩
    exact ⟨_, (accessRegister_ok _ _ _ _ _ h).mpr ⟨readable, rfl, rfl⟩, (writeRegister_ok _ _ _ _ h).mpr hwrite⟩

/-- LEA rr1 reads one pair and writes another. -/
theorem loadEffectivePair_ok (dst base : Nib) (x : Byte) (s t : State) (h : Undisturbed s) :
    loadEffectivePair dst base x s = .ok t ↔ ∃ w, readPair 6 (workingAddress base s) s = .ok w ∧
      writePair (workingAddress dst s) (w + x.signExtend 16) s = .ok t := by
  unfold loadEffectivePair
  simp only [bind_ok]
  constructor
  · rintro ⟨⟨w, s1⟩, hread, hwrite⟩
    obtain ⟨hw, rfl⟩ := (accessPair_ok _ _ _ _ _ h).mp hread
    exact ⟨w, hw, hwrite⟩
  · rintro ⟨w, hw, hwrite⟩
    exact ⟨_, (accessPair_ok _ _ _ _ _ h).mpr ⟨hw, rfl⟩, hwrite⟩

/-- Settles O35: both forms add the displacement as a signed number, to a byte and to a pair's word, and the register
writes are all they do. -/
theorem loadEffectiveResult : Obligations.LoadEffectiveResult := by
  unfold Obligations.LoadEffectiveResult
  constructor
  case left =>
    intro dst base x s hs readable writable
    refine ⟨rfl, ?_⟩
    rw [exec_lea_r_Xr, (loadEffective_ok dst base x s _ hs).mpr ⟨readable, writable, rfl⟩, finish_ok, add_eq_ofInt]
  case right =>
    intro dst base x w s da hs hw writeHigh writeLow
    refine ⟨w + x.signExtend 16, add_signExtend_toNat w x, rfl, ?_⟩
    have written := writePair_ofNat (w + x.signExtend 16).toNat hs writeHigh writeLow
    rw [BitVec.ofNat_toNat, BitVec.setWidth_eq] at written
    rw [exec_lea_rr_Xrr, (loadEffectivePair_ok dst base x s _ hs).mpr ⟨w, hw, written⟩, finish_ok]

end Sys2Proof.Proofs

/-! ## Logic (45_logical.md) -/

namespace Sys2Proof.Proofs

open Sys2Proof Sys2Proof.Machine Sys2Proof.Claims

/-- A logical result is stored as it is. -/
theorem logic_value (r : Byte) : (logic r).value = BitVec.ofNat 8 r.toNat := by
  rw [BitVec.ofNat_toNat, BitVec.setWidth_eq]
  rfl

/-- R297: a group that stores a bitwise function `g` of its operands has the results and the flags of that byte. -/
theorem combines_of_logic {op : Op2} {g : Byte → Byte → Byte} (hop : storesResult op = true)
    (hg : ∀ d v s, binaryAlu op s d v = logic (g d v)) :
    Combines op (fun d v _ => (g d v).toNat) (fun d v _ => logicFlags (g d v)) := by
  refine combines_of_binaryAlu hop (fun d v s => ?value) fun d v s => ?flags
  case value => rw [hg, logic_value]
  case flags => rw [hg, logic_flags]

/-- Settles O20: AND, OR and XOR are the one logical result, each of its own bitwise function, and all three store it. -/
theorem logicResult : Obligations.LogicResult := by
  unfold Obligations.LogicResult
  refine ⟨?and, ?or, ?xor⟩
  case and => exact combines_of_logic rfl fun _ _ _ => rfl
  case or => exact combines_of_logic rfl fun _ _ _ => rfl
  case xor => exact combines_of_logic rfl fun _ _ _ => rfl

end Sys2Proof.Proofs

/-! ## Program control (46_program_control.md) -/

namespace Sys2Proof.Proofs

open Sys2Proof Sys2Proof.Machine Sys2Proof.Claims

/-! ### Jumps (R319 to R322) -/

/-- A taken branch moves the Program Counter and empties the Fetch Unit's record, and that is all. -/
theorem branchTo_eq (target : Word) (s : State) : branchTo target s = { s with pc := target, stale := [] } := rfl

theorem exec_jp_DA (target : Word) (s : State) : exec (.jp_DA target) s = .next (branchTo target s) := rfl

theorem exec_jr (x : Byte) (s : State) : exec (.jr x) s = .next (branchTo (relativeTarget x s) s) := rfl

theorem exec_jp_cc (cc : Cond) (target : Word) (s : State) :
    exec (.jp_cc cc target) s = .next (branchIf (condHolds cc s.product.flagBit s.flags) target s) := rfl

theorem exec_jr_cc (cc : Cond) (x : Byte) (s : State) :
    exec (.jr_cc cc x) s =
      .next (branchIf (condHolds cc s.product.flagBit s.flags) (relativeTarget x s) s) := rfl

theorem exec_jp_IRR (a : Byte) (s : State) : exec (.jp_IRR a) s = finish (jumpThrough a s) := rfl

/-- JP through a pair goes where the pair, once read, points. -/
theorem jumpThrough_ok (a : Byte) (s t : State) (h : Undisturbed s) :
    jumpThrough a s = .ok t ↔ ∃ w, readPair 4 (escaped8 a s) s = .ok w ∧ t = branchTo w s := by
  unfold jumpThrough
  simp only [bind_ok]
  constructor
  · rintro ⟨⟨w, s1⟩, hread, e⟩
    obtain ⟨hw, rfl⟩ := (accessPair_ok _ _ _ _ _ h).mp hread
    exact ⟨w, hw, (Except.ok.inj e).symm⟩
  · rintro ⟨w, hw, rfl⟩
    exact ⟨_, (accessPair_ok _ _ _ _ _ h).mpr ⟨hw, rfl⟩, rfl⟩

/-- Settles O46: every jump is the one taken branch, on a condition of FLAGS or to a pair's value; the two conditional
columns of the first map are those of Table 2. -/
theorem jumpResult : Obligations.JumpResult := by
  unfold Obligations.JumpResult
  intro s t x a cc
  refine ⟨exec_jp_DA t s, exec_jr x s, exec_jp_cc cc t s, exec_jr_cc cc x s, fun w hs hw => ?pair, rfl, rfl, rfl,
    fun n hi lo => ⟨decode_jr_cc n x, decode_jp_cc n hi lo⟩⟩
  case pair => rw [exec_jp_IRR, (jumpThrough_ok a s _ hs).mpr ⟨w, hw, rfl⟩, finish_ok, branchTo_eq]

/-! ### Jumps on a bit (R313 to R315) -/

theorem encode_bitJump_working {i : Instr} {p : Bool} {b : BitNo} {n : Nib} {x : Byte}
    (h : bitJump i = some (p, b, .working n, x)) : encode i = [0xF6, bitByte p b n, x] := by
  unfold bitJump at h
  split at h <;> cases h <;> rfl

theorem encode_bitJump_viaWorking {i : Instr} {p : Bool} {b : BitNo} {n : Nib} {x : Byte}
    (h : bitJump i = some (p, b, .viaWorking n, x)) : encode i = [0xF7, bitByte p b n, x] := by
  unfold bitJump at h
  split at h <;> cases h <;> rfl

/-- BTJ, BTJNZ and BTJZ are the one jump on a bit of their operand. -/
theorem exec_bitJump {i : Instr} {p : Bool} {b : BitNo} {src : Place} {x : Byte}
    (h : bitJump i = some (p, b, src, x)) (s : State) : exec i s = finish (branchOnBit p b src x s) := by
  unfold bitJump at h
  split at h <;> cases h <;> rfl

/-- Where the tested bit has the polarity, and only there, the branch is taken. -/
theorem branchIf_beq (bit p : Bool) (target : Word) (s : State) :
    branchIf (bit == p) target s = if bit = p then branchTo target s else s := by
  simp only [branchIf, beq_iff_eq]

/-- Settles O47: the six spellings are one jump, whose condition is the equality of bit and polarity. -/
theorem bitJumpResult : Obligations.BitJumpResult := by
  unfold Obligations.BitJumpResult
  intro i p b src x s v hi hs hv
  refine ⟨fun n hn => ?direct, fun n hn => ?indirect, ?result⟩
  case direct => rw [encode_bitJump_working (hn ▸ hi), bitByte_eq_ofNat]
  case indirect => rw [encode_bitJump_viaWorking (hn ▸ hi), bitByte_eq_ofNat]
  case result =>
    rw [exec_bitJump hi, (branchOnBit_ok p b src x s _ hs).mpr ⟨v, hv, rfl⟩, finish_ok, branchIf_beq, branchTo_eq]

/-! ### Counting down (R317) -/

/-- Column A of the first map is DJNZ. -/
theorem firstMap_append_A (n : Nib) : firstMap (n ++ 0xA#4) = some (.oneByte (.djnz n)) := by
  simp [firstMap]

theorem decode_djnz (n : Nib) (x : Byte) : decode [n ++ 0xA#4, x] = .ok (.djnz n x) 2 :=
  (decode_of_firstMap [x] (append_ne_prefix n (by decide)) (firstMap_append_A n)).trans
    (decodeOperands_oneByte 1 _ x)

theorem exec_djnz (n : Nib) (x : Byte) (s : State) : exec (.djnz n x) s = finish (decrementAndJump n x s) := rfl

/-- DJNZ writes the counter back one lower, then jumps unless it reached 0. -/
theorem decrementAndJump_ok (n : Nib) (x : Byte) (s t : State) (h : Undisturbed s) :
    decrementAndJump n x s = .ok t ↔ Readable (workingAddress n s) s ∧ Writable (workingAddress n s) s ∧
      t = branchIf (decide (registerValue 2 (workingAddress n s) s - 1 ≠ 0)) (relativeTarget x s)
        (storeRegister (workingAddress n s) (registerValue 2 (workingAddress n s) s - 1) s) := by
  unfold decrementAndJump
  simp only [bind_ok]
  constructor
  · rintro ⟨⟨d, s1⟩, hread, s2, hwrite, e⟩
    obtain ⟨readable, rfl, rfl⟩ := (accessRegister_ok _ _ _ _ _ h).mp hread
    obtain ⟨writable, rfl⟩ := (writeRegister_ok _ _ _ _ h).mp hwrite
    exact ⟨readable, writable, (Except.ok.inj e).symm⟩
  · rintro ⟨readable, writable, rfl⟩
    exact ⟨_, (accessRegister_ok _ _ _ _ _ h).mpr ⟨readable, rfl, rfl⟩, _,
      (writeRegister_ok _ _ _ _ h).mpr ⟨writable, rfl⟩, rfl⟩

/-- The counter reaches 0 from 1 only. -/
theorem branchIf_sub_one_ne_zero (d : Byte) (target : Word) (s : State) :
    branchIf (decide (d - 1 ≠ 0)) target s = if d.toNat = 1 then s else branchTo target s := by
  have reaches : d - 1 = 0 ↔ d.toNat = 1 := by bv_omega
  simp only [branchIf, decide_eq_true_eq, ne_eq, reaches, ite_not]

/-- Settles O48: the byte written is the one DEC computes, without its flags, and the jump falls through from 1 only. -/
theorem djnzResult : Obligations.DjnzResult := by
  unfold Obligations.DjnzResult
  intro n x s hs readable writable d t
  refine ⟨decode_djnz n x, ?result⟩
  have counted : d - 1 = BitVec.ofNat 8 (d.toNat + 255) := decrement_value d
  rw [exec_djnz, (decrementAndJump_ok n x s _ hs).mpr ⟨readable, writable, rfl⟩, finish_ok, branchIf_sub_one_ne_zero,
    counted, branchTo_eq]

/-! ### What a push and a pop leave where there is room (10_state.md R42 to R44) -/

theorem spOf_eq_iff (a : Addr) (s : State) : spOf s = a.toNat ↔ stackPointer s = a := BitVec.toNat_eq.symm

theorem stackGoesOn_of_available {a : Addr} {s : State} (h : available a s = true) : stackGoesOn a s = true := by
  simp only [stackGoesOn, h, Bool.true_or]

theorem undisturbed_pushed (v : Byte) {s : State} (h : Undisturbed s) : Undisturbed (pushed v s) :=
  (storeRegister_midway _ v _).trans h

theorem undisturbed_popped {s : State} (h : Undisturbed s) : Undisturbed (popped s) := h

theorem push8_of_pushable (v : Byte) {s : State} (hs : Undisturbed s) (h : Pushable s) :
    push8 v s = .ok (pushed v s) := by
  obtain ⟨above, isAvailable, writable⟩ := h
  exact (push8_ok v s _ hs).mpr
    ⟨fun e => above ((spOf_eq_iff 0 s).mpr e), stackGoesOn_of_available isAvailable, writable, rfl⟩

theorem push16_of_roomForWord {w : Word} {s : State} (hs : Undisturbed s) (h : RoomForWord w s) :
    push16 w s = .ok (pushedWord w s) := by
  obtain ⟨low, high⟩ := h
  exact (push16_ok w s _).mpr
    ⟨_, push8_of_pushable _ hs low, push8_of_pushable _ (undisturbed_pushed _ hs) high⟩

theorem pop8_of_poppable (k : Nat) {s : State} (hs : Undisturbed s) (h : Poppable s) :
    pop8 k s = .ok (registerValue k (stackPointer s) s, popped s) := by
  obtain ⟨below, isAvailable, readable⟩ := h
  exact (pop8_ok k s _ _ hs).mpr
    ⟨stackGoesOn_of_available isAvailable, readable, fun e => below ((spOf_eq_iff 0xFFF s).mpr e), rfl, rfl⟩

theorem pop16_of_poppable (k : Nat) {s : State} (hs : Undisturbed s) (high : Poppable s) (low : Poppable (popped s)) :
    pop16 k s = .ok (registerValue k (stackPointer s) s ++
      registerValue (k + 1) (stackPointer (popped s)) (popped s), popped (popped s)) :=
  (pop16_ok k s _ _).mpr
    ⟨_, _, _, pop8_of_poppable k hs high, pop8_of_poppable (k + 1) (undisturbed_popped hs) low, rfl⟩

/-! ### CALL and RET (R316, R323) -/

theorem exec_call_DA (target : Word) (s : State) : exec (.call_DA target) s = finish (callTo target s) := rfl

theorem exec_call_IRR (a : Byte) (s : State) : exec (.call_IRR a) s = finish (callThrough a s) := rfl

theorem exec_ret (s : State) : exec .ret s = finish (returnFromCall s) := rfl

theorem callTo_ok (target : Word) (s t : State) :
    callTo target s = .ok t ↔ ∃ s1, push16 s.pc s = .ok s1 ∧ t = branchTo target s1 := by
  unfold callTo
  simp only [bind_ok, Except.ok.injEq, eq_comm (a := t)]

theorem returnFromCall_ok (s t : State) :
    returnFromCall s = .ok t ↔ ∃ w s1, pop16 0 s = .ok (w, s1) ∧ t = branchTo w s1 := by
  unfold returnFromCall
  simp only [bind_ok, Prod.exists, Except.ok.injEq, eq_comm (a := t)]

theorem callTo_of_roomForWord (target : Word) {s : State} (hs : Undisturbed s) (h : RoomForWord s.pc s) :
    callTo target s = .ok (branchTo target (pushedWord s.pc s)) :=
  (callTo_ok target s _).mpr ⟨_, push16_of_roomForWord hs h, rfl⟩

/-- The pair is read in the state before the push, so that a call through a pair is a call to that value. -/
theorem callThrough_of_readPair {a : Byte} {w : Word} {s : State} (hs : Undisturbed s)
    (hw : readPair 4 (escaped8 a s) s = .ok w) : callThrough a s = callTo w s := by
  unfold callThrough
  rw [(accessPair_ok 4 (escaped8 a s) s s w hs).mpr ⟨hw, rfl⟩]
  rfl

theorem returnFromCall_of_poppable {s : State} (hs : Undisturbed s) (high : Poppable s) (low : Poppable (popped s)) :
    returnFromCall s = .ok (branchTo
      (registerValue 0 (stackPointer s) s ++ registerValue 1 (stackPointer (popped s)) (popped s))
      (popped (popped s))) :=
  (returnFromCall_ok s _).mpr ⟨_, _, pop16_of_poppable 0 hs high low, rfl⟩

/-- Settles O49: both calls are one push of the next instruction's address and a branch; RET is the pop and a branch. -/
theorem callAndReturn : Obligations.CallAndReturn := by
  unfold Obligations.CallAndReturn
  refine ⟨fun s t a hs room => ⟨?direct, fun w hw => ?throughPair⟩, fun s hs high low => ?ret, rfl,
    fun t a => ⟨rfl, rfl⟩⟩
  case direct => rw [exec_call_DA, callTo_of_roomForWord t hs room, finish_ok]
  case throughPair => rw [exec_call_IRR, callThrough_of_readPair hs hw, callTo_of_roomForWord w hs room, finish_ok]
  case ret => rw [exec_ret, returnFromCall_of_poppable hs high low, finish_ok]

end Sys2Proof.Proofs

/-! ## Encoding, then decoding (30_encoding.md section 2) -/

namespace Sys2Proof.Proofs

open Sys2Proof Sys2Proof.Machine Sys2Proof.Claims

/-! ### The operand bytes of each format -/

/-- The operand bytes are read by the format as the operands of `i`, whatever follows them. -/
def Spells (l : Layout) (operands : List Byte) (i : Instr) : Prop :=
  ∀ (n : Nat) (rest : List Byte), decodeOperands n l (operands ++ rest) = .ok i (n + operands.length)

@[simp] theorem highNib_join (h l : Nib) : highNib (join h l) = h := highNib_append h l

@[simp] theorem lowNib_join (h l : Nib) : lowNib (join h l) = l := lowNib_append h l

/-- Two neighbouring fields that make up the whole word make the word. -/
theorem extractLsb'_append_extractLsb'_eq_self {w m n : Nat} (x : BitVec w) (hw : w = m + n) :
    (x.extractLsb' n m ++ x.extractLsb' 0 n).setWidth w = x := by
  subst hw
  rw [BitVec.setWidth_eq, BitVec.extractLsb'_append_extractLsb'_eq_extractLsb' (Nat.zero_add n).symm,
    BitVec.extractLsb'_eq_self]

theorem addr_high_append_low (a : Addr) : a.extractLsb' 8 4 ++ a.extractLsb' 0 8 = a := by
  simpa using extractLsb'_append_extractLsb'_eq_self (m := 4) (n := 8) a rfl

theorem addr_page_append_low (a : Addr) : a.extractLsb' 4 8 ++ a.extractLsb' 0 4 = a := by
  simpa using extractLsb'_append_extractLsb'_eq_self (m := 8) (n := 4) a rfl

theorem word_high_append_low (w : Word) : w.extractLsb' 8 8 ++ w.extractLsb' 0 8 = w := by
  simpa using extractLsb'_append_extractLsb'_eq_self (m := 8) (n := 8) w rfl

/-- The three fields of `{p, bit, r}` are read back from it. -/
theorem polarity_bitByte : ∀ (p : Bool) (b : BitNo) (r : Nib),
    polarity (bitByte p b r) = p ∧ bitNumber (bitByte p b r) = b ∧ lowNib (bitByte p b r) = r := by
  decide

theorem spells_alone (i : Instr) : Spells (.alone i) [] i := fun _ _ => rfl

theorem spells_oneByte (f : Byte → Instr) (b : Byte) : Spells (.oneByte f) [b] (f b) := fun _ _ => rfl

theorem spells_R2_R1 (f : Byte → Byte → Instr) (dst src : Byte) : Spells (.R2_R1 f) [src, dst] (f dst src) :=
  fun _ _ => rfl

theorem spells_R1_IM (f : Byte → Byte → Instr) (dst im : Byte) : Spells (.R1_IM f) [dst, im] (f dst im) :=
  fun _ _ => rfl

theorem spells_r1r2 (f : Nib → Nib → Instr) (r1 r2 : Nib) :
    Spells (.r1r2 f) [join r1 r2] (f r1 r2) := fun n rest => by
  simp [decodeOperands, Layout.size, Layout.read]

theorem spells_r2r1 (f : Nib → Nib → Instr) (r1 r2 : Nib) :
    Spells (.r2r1 f) [join r2 r1] (f r1 r2) := fun n rest => by
  simp [decodeOperands, Layout.size, Layout.read]

theorem spells_r1r2_X (f : Nib → Nib → Byte → Instr) (r1 r2 : Nib) (x : Byte) :
    Spells (.r1r2_X f) [join r1 r2, x] (f r1 r2 x) := fun n rest => by
  simp [decodeOperands, Layout.size, Layout.read]

theorem spells_r2r1_X (f : Nib → Byte → Nib → Instr) (r1 r2 : Nib) (x : Byte) :
    Spells (.r2r1_X f) [join r2 r1, x] (f r1 x r2) := fun n rest => by
  simp [decodeOperands, Layout.size, Layout.read]

theorem spells_rr1r2_X (f : Nib → Byte → Nib → Instr) (r1 r2 : Nib) (x : Byte) :
    Spells (.rr1r2_X f) [join r1 r2, x] (f r1 x r2) := fun n rest => by
  simp [decodeOperands, Layout.size, Layout.read]

theorem spells_pbr (f : Bool → BitNo → Nib → Instr) (p : Bool) (b : BitNo) (r : Nib) :
    Spells (.pbr f) [bitByte p b r] (f p b r) := fun n rest => by
  obtain ⟨hp, hb, hr⟩ := polarity_bitByte p b r
  simp [decodeOperands, Layout.size, Layout.read, hp, hb, hr]

theorem spells_pbr_RA (f : Bool → BitNo → Nib → Byte → Instr) (p : Bool) (b : BitNo) (r : Nib) (x : Byte) :
    Spells (.pbr_RA f) [bitByte p b r, x] (f p b r x) := fun n rest => by
  obtain ⟨hp, hb, hr⟩ := polarity_bitByte p b r
  simp [decodeOperands, Layout.size, Layout.read, hp, hb, hr]

theorem spells_DA (f : Word → Instr) (w : Word) : Spells (.DA f) (wordBytes w) (f w) := fun n rest => by
  simp [decodeOperands, Layout.size, Layout.read, wordBytes, word_high_append_low]

theorem spells_r_ER_dst (f : Nib → Addr → Instr) (r : Nib) (a : Addr) :
    Spells (.r_ER_dst f) (nibAddrBytes r a) (f r a) := fun n rest => by
  simp [decodeOperands, Layout.size, Layout.read, nibAddrBytes, addr_high_append_low]

theorem spells_r_ER_src (f : Addr → Nib → Instr) (r : Nib) (a : Addr) :
    Spells (.r_ER_src f) (nibAddrBytes r a) (f a r) := fun n rest => by
  simp [decodeOperands, Layout.size, Layout.read, nibAddrBytes, addr_high_append_low]

theorem spells_ER2_ER1 (f : Addr → Addr → Instr) (er1 er2 : Addr) :
    Spells (.ER2_ER1 f) (twoAddrBytes er2 er1) (f er1 er2) := fun n rest => by
  simp [decodeOperands, Layout.size, Layout.read, twoAddrBytes, addr_high_append_low, addr_page_append_low]

/-- The encoder writes the fixed nibble 0. -/
theorem spells_ER_0 (f : Addr → Instr) (a : Addr) : Spells (.ER_0 f) (addrZeroBytes a) (f a) := fun n rest => by
  simp [decodeOperands, Layout.size, Layout.read, addrZeroBytes, addr_page_append_low]

/-- The encoder writes the fixed nibble 0. -/
theorem spells_IM_ER1 (f : Addr → Byte → Instr) (a : Addr) (im : Byte) :
    Spells (.IM_ER1 f) (immAddrBytes im a) (f a im) := fun n rest => by
  simp [decodeOperands, Layout.size, Layout.read, immAddrBytes, addr_high_append_low]

/-! ### The opcode -/

@[simp] theorem condOf_condCode (cc : Cond) : condOf (condCode cc) = cc := by
  cases cc <;> rfl

/-- An instruction whose opcode the first map gives the format that spells its operands. -/
theorem decode_encode_of_firstMap {i : Instr} {op : Byte} {operands : List Byte} {l : Layout}
    (he : encode i = op :: operands) (hop : op ≠ 0x1F) (hl : firstMap op = some l)
    (hs : Spells l operands (canonical i)) (rest : List Byte) :
    decode (encode i ++ rest) = .ok (canonical i) (encode i).length := by
  rw [he, List.cons_append, decode_of_firstMap _ hop hl, hs 1 rest, List.length_cons, Nat.add_comm]

/-- An instruction of the second map. -/
theorem decode_encode_of_tableSecond {i : Instr} {op2 : Byte} {operands : List Byte} {l : Layout}
    (he : encode i = 0x1F :: op2 :: operands) (hl : tableSecond op2.toNat = some l)
    (hs : Spells l operands (canonical i)) (rest : List Byte) :
    decode (encode i ++ rest) = .ok (canonical i) (encode i).length := by
  rw [he, List.cons_append, List.cons_append, decode_of_tableSecond _ hl, hs 2 rest, List.length_cons, List.length_cons,
    Nat.add_comm]

/-- Column B of the first map by the condition. -/
theorem firstMap_jr_cc (cc : Cond) : firstMap (join (condCode cc) 0xB) = some (.oneByte (.jr_cc cc)) := by
  simp [firstMap]

/-- Column D of the first map by the condition. -/
theorem firstMap_jp_cc (cc : Cond) : firstMap (join (condCode cc) 0xD) = some (.DA (.jp_cc cc)) := by
  simp [firstMap]

/-- Column C of the first map is LD r, IM. -/
theorem firstMap_append_C (n : Nib) : firstMap (join n 0xC) = some (.oneByte (.ld_r_IM n)) := by
  simp [firstMap]

/-- Column E of the first map is INC r. -/
theorem firstMap_append_E (n : Nib) : firstMap (join n 0xE) = some (.alone (.inc_r n)) := by
  simp [firstMap]

/-- Settles O1, format by format: the opcode names the format, and the format reads back the operands that the encoder
put into its bytes. -/
theorem decodeOfEncode : Obligations.DecodeOfEncode := by
  unfold Obligations.DecodeOfEncode
  intro i rest
  cases i with
  | ccf | rcf | scf | atm | di | ei | halt | nop | stop | wdt | brk | iret | ret =>
    exact decode_encode_of_firstMap rfl (by decide) rfl (spells_alone _) rest
  | inc_r n =>
    exact decode_encode_of_firstMap rfl (append_ne_prefix n (by decide)) (firstMap_append_E n) (spells_alone _) rest
  | da_R | da_IR | dec_R | dec_IR | decw_RR | decw_IR | inc_R | inc_IR | incw_RR | incw_IR | mult_RR | bswap_R | clr_R
  | clr_IR | pop_R | pop_IR | com_R | com_IR | call_IRR | jp_IRR | rl_R | rl_IR | rlc_R | rlc_IR | rr_R | rr_IR | rrc_R
  | rrc_IR | sra_R | sra_IR | swap_R | swap_IR | srp | push_R | push_IR | trap =>
    exact decode_encode_of_firstMap rfl (by decide) rfl (spells_oneByte _ _) rest
  | ld_r_IM n =>
    exact decode_encode_of_firstMap rfl (append_ne_prefix n (by decide)) (firstMap_append_C n) (spells_oneByte _ _) rest
  | djnz n =>
    exact decode_encode_of_firstMap rfl (append_ne_prefix n (by decide)) (firstMap_append_A n) (spells_oneByte _ _) rest
  | jr | jr_cc =>
    exact decode_encode_of_firstMap rfl (append_ne_prefix _ (by decide)) (firstMap_jr_cc _) (spells_oneByte _ _) rest
  | srl_R | srl_IR | push_IM => exact decode_encode_of_tableSecond rfl rfl (spells_oneByte _ _) rest
  | adc_r_r | adc_r_Ir | add_r_r | add_r_Ir | cp_r_r | cp_r_Ir | sbc_r_r | sbc_r_Ir | sub_r_r | sub_r_Ir | tcm_r_r
  | tcm_r_Ir | tm_r_r | tm_r_Ir | ldc_r_Irr | ldc_Ir_Irr | ldci_Ir_Irr | lde_r_Irr | ldei_Ir_Irr | ld_r_Ir | ld_Ir_r
  | and_r_r | and_r_Ir | or_r_r | or_r_Ir | xor_r_r | xor_r_Ir =>
    exact decode_encode_of_firstMap rfl (by decide) rfl (spells_r1r2 _ _ _) rest
  | cpc_r_r | cpc_r_Ir => exact decode_encode_of_tableSecond rfl rfl (spells_r1r2 _ _ _) rest
  | ldc_Irr_r | ldci_Irr_Ir | lde_Irr_r | ldei_Irr_Ir =>
    exact decode_encode_of_firstMap rfl (by decide) rfl (spells_r2r1 _ _ _) rest
  | adc_R_R | adc_R_IR | add_R_R | add_R_IR | cp_R_R | cp_R_IR | sbc_R_R | sbc_R_IR | sub_R_R | sub_R_IR | tcm_R_R
  | tcm_R_IR | tm_R_R | tm_R_IR | ld_R_R | ld_R_IR | ld_IR_R | ldx_R_IRR | ldx_IR_IRR | ldx_IRR_R | ldx_IRR_IR | and_R_R
  | and_R_IR | or_R_R | or_R_IR | xor_R_R | xor_R_IR =>
    exact decode_encode_of_firstMap rfl (by decide) rfl (spells_R2_R1 _ _ _) rest
  | cpc_R_R | cpc_R_IR => exact decode_encode_of_tableSecond rfl rfl (spells_R2_R1 _ _ _) rest
  | adc_R_IM | adc_IR_IM | add_R_IM | add_IR_IM | cp_R_IM | cp_IR_IM | sbc_R_IM | sbc_IR_IM | sub_R_IM | sub_IR_IM
  | tcm_R_IM | tcm_IR_IM | tm_R_IM | tm_IR_IM | ld_R_IM | ld_IR_IM | and_R_IM | and_IR_IM | or_R_IM | or_IR_IM | xor_R_IM
  | xor_IR_IM =>
    exact decode_encode_of_firstMap rfl (by decide) rfl (spells_R1_IM _ _ _) rest
  | cpc_R_IM | cpc_IR_IM => exact decode_encode_of_tableSecond rfl rfl (spells_R1_IM _ _ _) rest
  | adcx_ER_ER | addx_ER_ER | cpx_ER_ER | sbcx_ER_ER | subx_ER_ER | tcmx_ER_ER | tmx_ER_ER | ldx_ER_ER | andx_ER_ER
  | orx_ER_ER | xorx_ER_ER =>
    exact decode_encode_of_firstMap rfl (by decide) rfl (spells_ER2_ER1 _ _ _) rest
  | cpcx_ER_ER | ldwx_ER_ER => exact decode_encode_of_tableSecond rfl rfl (spells_ER2_ER1 _ _ _) rest
  | adcx_ER_IM | addx_ER_IM | cpx_ER_IM | sbcx_ER_IM | subx_ER_IM | tcmx_ER_IM | tmx_ER_IM | ldx_ER_IM | andx_ER_IM
  | orx_ER_IM | xorx_ER_IM =>
    exact decode_encode_of_firstMap rfl (by decide) rfl (spells_IM_ER1 _ _ _) rest
  | cpcx_ER_IM => exact decode_encode_of_tableSecond rfl rfl (spells_IM_ER1 _ _ _) rest
  | popx_ER | pushx_ER => exact decode_encode_of_firstMap rfl (by decide) rfl (spells_ER_0 _ _) rest
  | bit | bclr | bset => exact decode_encode_of_firstMap rfl (by decide) rfl (spells_pbr _ _ _ _) rest
  | btj_r | btj_Ir | btjnz_r | btjnz_Ir | btjz_r | btjz_Ir =>
    exact decode_encode_of_firstMap rfl (by decide) rfl (spells_pbr_RA _ _ _ _ _) rest
  | ld_r_Xr | ldx_r_Xrr | lea_r_Xr | lea_rr_Xrr =>
    exact decode_encode_of_firstMap rfl (by decide) rfl (spells_r1r2_X _ _ _ _) rest
  | ld_Xr_r => exact decode_encode_of_firstMap rfl (by decide) rfl (spells_r2r1_X _ _ _ _) rest
  | ldx_Xrr_r => exact decode_encode_of_firstMap rfl (by decide) rfl (spells_rr1r2_X _ _ _ _) rest
  | ldx_r_ER | ldx_Ir_ER => exact decode_encode_of_firstMap rfl (by decide) rfl (spells_r_ER_dst _ _ _) rest
  | ldx_ER_r | ldx_ER_Ir => exact decode_encode_of_firstMap rfl (by decide) rfl (spells_r_ER_src _ _ _) rest
  | call_DA => exact decode_encode_of_firstMap rfl (by decide) rfl (spells_DA _ _) rest
  | jp_DA | jp_cc =>
    exact decode_encode_of_firstMap rfl (append_ne_prefix _ (by decide)) (firstMap_jp_cc _) (spells_DA _ _) rest

end Sys2Proof.Proofs

/-! ## What an instruction's changes are made of -/

namespace Sys2Proof.Proofs

open Sys2Proof Sys2Proof.Machine Sys2Proof.Claims

/-! ### One shape for each operand table -/

/-- CLR, LD and LDX are the one load of their operands. -/
theorem exec_loadOperands {i : Instr} {dst : Place} {src : Source} (h : loadOperands i = some (dst, src)) (s : State) :
    exec i s = finish (load dst src s) := by
  unfold loadOperands at h
  split at h <;> cases h <;> rfl

theorem exec_pushSource {i : Instr} {src : Source} (h : pushSource i = some src) (s : State) :
    exec i s = finish (pushFrom src s) := by
  unfold pushSource at h
  split at h <;> cases h <;> rfl

theorem exec_popPlace {i : Instr} {p : Place} (h : popPlace i = some p) (s : State) :
    exec i s = finish (popInto p s) := by
  unfold popPlace at h
  split at h <;> cases h <;> rfl

/-- The byte that LDC and LDCI, or LDE and LDEI, read. -/
def fetchFrom (program : Bool) : Word → State → Byte := if program then programByte else dataByte

/-- The store that LDC and LDCI, or LDE and LDEI, make. -/
def storeTo (program : Bool) : Word → Byte → State → State := if program then writeProgram else writeData

theorem exec_memoryLoad {i : Instr} {program : Bool} {p : Place} {rr : Nib}
    (h : memoryLoad i = some (program, p, rr)) (s : State) :
    exec i s = finish (loadFromMemory (fetchFrom program) p rr s) := by
  unfold memoryLoad at h
  split at h <;> cases h <;> rfl

theorem exec_memoryStore {i : Instr} {program : Bool} {rr r : Nib} (h : memoryStore i = some (program, rr, r))
    (s : State) : exec i s = finish (storeToMemory (storeTo program) rr (.working r) s) := by
  unfold memoryStore at h
  split at h <;> cases h <;> rfl

theorem exec_blockLoad {i : Instr} {program : Bool} {r rr : Nib} (h : blockLoad i = some (program, r, rr)) (s : State) :
    exec i s = finish (loadAndIncrement (fetchFrom program) r rr s) := by
  unfold blockLoad at h
  split at h <;> cases h <;> rfl

theorem exec_blockStore {i : Instr} {program : Bool} {rr r : Nib} (h : blockStore i = some (program, rr, r))
    (s : State) : exec i s = finish (storeAndIncrement (storeTo program) rr r s) := by
  unfold blockStore at h
  split at h <;> cases h <;> rfl

theorem exec_atm (s : State) : exec .atm s = finish (openAtomicBlock s) := rfl

theorem exec_halt (s : State) : exec .halt s = .next (enterMode .halt s) := rfl

theorem exec_stop (s : State) : exec .stop s = .next (enterMode .stop s) := rfl

theorem exec_iret (s : State) : exec .iret s = finish (returnFromException s) := rfl

theorem exec_trap (v : Byte) (s : State) : exec (.trap v) s = finish (softwareTrap v s) := rfl

/-! ### Updates that are register writes -/

theorem setInterruptsEnabled_eq_storeRegister (b : Bool) (s : State) :
    setInterruptsEnabled b s = storeRegister 0xFCF (if b then s.irqctl ||| 0x80 else s.irqctl &&& 0x7F) s := rfl

theorem setStackPointer_eq_storeRegister (v : Addr) (s : State) :
    setStackPointer v s = storeRegister 0xFFF (v.extractLsb' 0 8)
      (storeRegister 0xFFE (s.sph.extractLsb' 4 4 ++ v.extractLsb' 8 4) s) := rfl

/-! ### Relations that every change keeps -/

/-- From `s`, every answer leaves a state that is `R`-related to `s`, and every Reset comes in a state `Q`-related to
`s`. -/
def Leads {α : Type} (R Q : State → State → Prop) (s : State) (after : α → State) (r : Res α) : Prop :=
  (∀ a, r = .ok a → R s (after a)) ∧ ∀ u, r = .error (.reset u) → Q s u

/-- `R` holds over no change and over two changes in a row, and `Q` over a change before a Reset. -/
structure Composes (R Q : State → State → Prop) : Prop where
  refl : ∀ s, R s s
  trans : ∀ {s t u}, R s t → R t u → R s u
  before : ∀ {s t u}, R s t → Q t u → Q s u

/-- `R` holds over every change an instruction makes to registers and the Program Counter and over what outside agents do
before a byte access, and `Q` over the same up to a Reset. -/
structure Primitive (R Q : State → State → Prop) : Prop extends Composes R Q where
  gap : ∀ s, Leads R Q s id (gap s)
  store : ∀ a v s, R s (storeRegister a v s)
  branch : ∀ target s, R s (branchTo target s)
  watchdog : ∀ s, R s (refreshWatchdog s)

/-- The next state of an instruction is `R`-related to `s`, or is a Reset's from a state `Q`-related to `s`. -/
def Follows (R Q : State → State → Prop) (s : State) (o : Out) : Prop :=
  ∀ t, o = .next t → R s t ∨ ∃ u, Q s u ∧ t = resetAgain u

theorem leads_ok {α : Type} {R Q : State → State → Prop} {s : State} {after : α → State} {a : α}
    (h : R s (after a)) : Leads R Q s after (.ok a) :=
  ⟨fun _ e => Except.ok.inj e ▸ h, fun _ e => nomatch e⟩

theorem leads_refuse {α : Type} {R Q : State → State → Prop} {s : State} {after : α → State} (r : Refusal) :
    Leads R Q s after (refuse r) :=
  ⟨fun _ e => (nomatch e), fun _ e => nomatch e⟩

theorem follows_finish {R Q : State → State → Prop} {s : State} {r : Res State} (h : Leads R Q s id r) :
    Follows R Q s (finish r) := fun t e => by
  obtain ⟨answers, resets⟩ := h
  rcases (finish_next r t).mp e with answer | ⟨u, reset, rfl⟩
  case inl => exact .inl (answers t answer)
  case inr => exact .inr ⟨u, resets u reset, rfl⟩

theorem follows_next {R Q : State → State → Prop} {s t : State} (h : R s t) : Follows R Q s (.next t) :=
  fun _ e => .inl (Host.Outcome.next.inj e ▸ h)

/-- A relation holds over two operations in a row where it holds over each. -/
theorem leads_bind {R Q : State → State → Prop} (h : Composes R Q) {α β : Type} {s : State} {before : α → State}
    {after : β → State} {x : Res α} {f : α → Res β} (hx : Leads R Q s before x)
    (hf : ∀ a, Leads R Q (before a) after (f a)) : Leads R Q s after (x >>= f) := by
  obtain ⟨answers, resets⟩ := hx
  rcases x with e | a
  case error =>
    refine ⟨fun _ he => (nomatch he), fun u he => ?_⟩
    exact resets u (congrArg Except.error (Except.error.inj he))
  case ok =>
    have first : R s (before a) := answers a rfl
    exact ⟨fun b hb => h.trans first ((hf a).1 b hb), fun u hu => h.before first ((hf a).2 u hu)⟩

/-- The same where the operations start from a changed state. -/
theorem leads_after {R Q : State → State → Prop} (h : Composes R Q) {α : Type} {s t : State} {after : α → State}
    {r : Res α} (first : R s t) (hr : Leads R Q t after r) : Leads R Q s after r :=
  ⟨fun a e => h.trans first (hr.1 a e), fun u e => h.before first (hr.2 u e)⟩

theorem Primitive.bind {R Q : State → State → Prop} (h : Primitive R Q) {α β : Type} {s : State} {before : α → State}
    {after : β → State} {x : Res α} {f : α → Res β} (hx : Leads R Q s before x)
    (hf : ∀ a, Leads R Q (before a) after (f a)) : Leads R Q s after (x >>= f) :=
  leads_bind h.toComposes hx hf

theorem Primitive.after {R Q : State → State → Prop} (h : Primitive R Q) {α : Type} {s t : State} {after : α → State}
    {r : Res α} (first : R s t) (hr : Leads R Q t after r) : Leads R Q s after r :=
  leads_after h.toComposes first hr

section

variable {R Q : State → State → Prop} (h : Primitive R Q)

include h

/-! ### Byte accesses and pairs -/

theorem leads_accessRegister (k : Nat) (a : Addr) (s : State) : Leads R Q s Prod.snd (accessRegister k a s) := by
  refine h.bind (h.gap s) fun s1 => ?_
  split
  · exact leads_refuse _
  · exact leads_ok (h.refl _)

theorem leads_writeRegister (a : Addr) (v : Byte) (s : State) : Leads R Q s id (writeRegister a v s) := by
  refine h.bind (h.gap s) fun s1 => ?_
  split
  · exact leads_refuse _
  · exact leads_ok (h.store a v s1)

theorem leads_accessMemory (fetch : Word → State → Byte) (a : Word) (s : State) :
    Leads R Q s Prod.snd (accessMemory fetch a s) :=
  h.bind (h.gap s) fun _ => leads_ok (h.refl _)

theorem leads_writeMemory {store : Word → Byte → State → State} (hstore : ∀ a v s, R s (store a v s)) (a : Word)
    (v : Byte) (s : State) : Leads R Q s id (writeMemory store a v s) :=
  h.bind (h.gap s) fun _ => leads_ok (hstore a v _)

theorem leads_accessVector (a : Word) (s : State) : Leads R Q s Prod.snd (accessVector a s) :=
  h.bind (leads_accessMemory h _ _ s) fun ⟨_, s1⟩ =>
  h.bind (leads_accessMemory h _ _ s1) fun _ =>
  leads_ok (h.refl _)

theorem leads_accessTwo (k : Nat) (a : Addr) (s : State) : Leads R Q s Prod.snd (accessTwo k a s) := by
  unfold accessTwo
  split
  · exact h.bind (leads_accessRegister h _ _ s) fun ⟨_, s1⟩ =>
      h.bind (leads_accessRegister h _ _ s1) fun _ =>
      leads_ok (h.refl _)
  · exact h.bind (leads_accessRegister h _ _ s) fun ⟨_, s1⟩ =>
      h.bind (leads_accessRegister h _ _ s1) fun _ =>
      leads_ok (h.refl _)

theorem leads_writeTwo (a : Addr) (w : Word) (s : State) : Leads R Q s id (writeTwo a w s) := by
  unfold writeTwo
  split
  · exact h.bind (leads_writeRegister h _ _ s) fun s1 => leads_writeRegister h _ _ s1
  · exact h.bind (leads_writeRegister h _ _ s) fun s1 => leads_writeRegister h _ _ s1

theorem leads_accessPair (k : Nat) (a : Addr) (s : State) : Leads R Q s Prod.snd (accessPair k a s) :=
  leads_accessTwo h k _ s

theorem leads_writePair (a : Addr) (w : Word) (s : State) : Leads R Q s id (writePair a w s) := leads_writeTwo h _ w s

/-! ### Stack and exceptions -/

theorem primitive_setStackPointer (v : Addr) (s : State) : R s (setStackPointer v s) := by
  rw [setStackPointer_eq_storeRegister]
  exact h.trans (h.store _ _ s) (h.store _ _ _)

theorem leads_push8 (v : Byte) (s : State) : Leads R Q s id (push8 v s) := by
  unfold push8
  split
  · exact leads_refuse _
  split
  · exact h.after (primitive_setStackPointer h _ s) (leads_writeRegister h _ _ _)
  · exact leads_refuse _

theorem leads_push16 (w : Word) (s : State) : Leads R Q s id (push16 w s) :=
  h.bind (leads_push8 h _ s) fun s1 => leads_push8 h _ s1

theorem leads_accessStack (k : Nat) (s : State) : Leads R Q s Prod.snd (accessStack k s) := by
  unfold accessStack
  split
  · exact leads_accessRegister h _ _ s
  · exact leads_refuse _

theorem leads_releaseByte (s : State) : Leads R Q s id (releaseByte s) := by
  unfold releaseByte
  split
  · exact leads_refuse _
  · exact leads_ok (primitive_setStackPointer h _ s)

theorem leads_pop8 (k : Nat) (s : State) : Leads R Q s Prod.snd (pop8 k s) :=
  h.bind (leads_accessStack h k s) fun ⟨_, s1⟩ => h.bind (leads_releaseByte h s1) fun _ => leads_ok (h.refl _)

theorem leads_pop16 (k : Nat) (s : State) : Leads R Q s Prod.snd (pop16 k s) :=
  h.bind (leads_pop8 h k s) fun ⟨_, s1⟩ => h.bind (leads_pop8 h _ s1) fun _ => leads_ok (h.refl _)

theorem primitive_clear (clears : Bool) (s : State) :
    R s (if clears then setInterruptsEnabled false s else s) := by
  split
  · exact h.store 0xFCF _ s
  · exact h.refl s

theorem leads_takeException (ret vector : Word) (clears : Bool) (s : State) :
    Leads R Q s id (takeException ret vector clears s) :=
  h.bind (leads_push16 h ret s) fun s1 =>
  h.bind (leads_push8 h _ s1) fun s2 =>
  h.bind (h.after (primitive_clear h clears s2) (leads_accessVector h vector _)) fun ⟨_, s3⟩ =>
  leads_ok (h.branch _ s3)

theorem leads_returnFromException (s : State) : Leads R Q s id (returnFromException s) :=
  h.bind (leads_pop8 h 0 s) fun ⟨_, s1⟩ =>
  h.bind (h.after (h.store 0xFFC _ s1) (leads_pop16 h 1 _)) fun ⟨_, s2⟩ =>
  leads_ok (h.trans (h.store 0xFCF _ s2) (h.branch _ _))

/-! ### Operands and shapes -/

theorem leads_accessPlace (k : Nat) (p : Place) (s0 s : State) : Leads R Q s Prod.snd (accessPlace k p s0 s) := by
  cases p with
  | working | short | extended | linear => exact leads_ok (h.refl s)
  | viaWorking | viaShort | indexed => exact h.bind (leads_accessRegister h _ _ s) fun _ => leads_ok (h.refl _)
  | viaPair | pairIndexed => exact h.bind (leads_accessPair h _ _ s) fun _ => leads_ok (h.refl _)

theorem leads_accessSource (src : Source) (s0 s : State) : Leads R Q s Prod.snd (accessSource src s0 s) := by
  cases src with
  | imm => exact leads_ok (h.refl s)
  | place p => exact h.bind (leads_accessPlace h 4 p s0 s) fun ⟨_, s1⟩ => leads_accessRegister h _ _ s1

theorem leads_combine (f : Byte → Byte → AluResult) (dst : Place) (src : Source) (s : State) :
    Leads R Q s id (combine f dst src s) :=
  h.bind (leads_accessPlace h 0 dst s s) fun ⟨_, s1⟩ =>
  h.bind (leads_accessSource h src s s1) fun ⟨_, s2⟩ =>
  h.bind (leads_accessRegister h _ _ s2) fun ⟨_, s3⟩ =>
  h.bind (leads_writeRegister h _ _ s3) fun s4 =>
  leads_ok (h.store 0xFFC _ s4)

theorem leads_test (f : Byte → Byte → AluResult) (dst : Place) (src : Source) (s : State) :
    Leads R Q s id (test f dst src s) :=
  h.bind (leads_accessPlace h 0 dst s s) fun ⟨_, s1⟩ =>
  h.bind (leads_accessSource h src s s1) fun ⟨_, s2⟩ =>
  h.bind (leads_accessRegister h _ _ s2) fun ⟨_, s3⟩ =>
  leads_ok (h.store 0xFFC _ s3)

theorem leads_modify (f : Byte → AluResult) (dst : Place) (s : State) : Leads R Q s id (modify f dst s) :=
  h.bind (leads_accessPlace h 0 dst s s) fun ⟨_, s1⟩ =>
  h.bind (leads_accessRegister h _ _ s1) fun ⟨_, s2⟩ =>
  h.bind (leads_writeRegister h _ _ s2) fun s3 =>
  leads_ok (h.store 0xFFC _ s3)

theorem leads_modifyPair (f : Word → Word × FlagUpdate) (dst : Place) (s : State) :
    Leads R Q s id (modifyPair f dst s) :=
  h.bind (leads_accessPlace h 0 dst s s) fun ⟨_, s1⟩ =>
  h.bind (leads_accessPair h _ _ s1) fun ⟨_, s2⟩ =>
  h.bind (leads_writePair h _ _ s2) fun s3 =>
  leads_ok (h.store 0xFFC _ s3)

theorem leads_multiply (dst : Place) (s : State) : Leads R Q s id (multiply dst s) :=
  h.bind (leads_accessPlace h 0 dst s s) fun ⟨_, s1⟩ =>
  h.bind (leads_accessPair h _ _ s1) fun ⟨_, s2⟩ =>
  leads_writePair h _ _ s2

theorem leads_load (dst : Place) (src : Source) (s : State) : Leads R Q s id (load dst src s) :=
  h.bind (leads_accessPlace h 0 dst s s) fun ⟨_, s1⟩ =>
  h.bind (leads_accessSource h src s s1) fun ⟨_, s2⟩ =>
  leads_writeRegister h _ _ s2

theorem leads_loadWord (dst src : Addr) (s : State) : Leads R Q s id (loadWord dst src s) :=
  h.bind (leads_accessTwo h _ _ s) fun ⟨_, s1⟩ => leads_writeTwo h _ _ s1

theorem leads_loadEffective (dst base : Nib) (x : Byte) (s : State) : Leads R Q s id (loadEffective dst base x s) :=
  h.bind (leads_accessRegister h _ _ s) fun ⟨_, s1⟩ => leads_writeRegister h _ _ s1

theorem leads_loadEffectivePair (dst base : Nib) (x : Byte) (s : State) :
    Leads R Q s id (loadEffectivePair dst base x s) :=
  h.bind (leads_accessPair h _ _ s) fun ⟨_, s1⟩ => leads_writePair h _ _ s1

theorem leads_pushFrom (src : Source) (s : State) : Leads R Q s id (pushFrom src s) :=
  h.bind (leads_accessSource h src s s) fun ⟨_, s1⟩ => leads_push8 h _ s1

theorem leads_popInto (dst : Place) (s : State) : Leads R Q s id (popInto dst s) :=
  h.bind (leads_accessPlace h 0 dst s s) fun ⟨_, s1⟩ =>
  h.bind (leads_accessStack h _ s1) fun ⟨_, s2⟩ =>
  h.bind (leads_writeRegister h _ _ s2) fun s3 =>
  leads_releaseByte h s3

theorem leads_incrementPointers (ra rra : Addr) (s : State) : Leads R Q s id (incrementPointers ra rra s) :=
  h.bind (leads_accessRegister h _ _ s) fun ⟨_, s1⟩ =>
  h.bind (leads_writeRegister h _ _ s1) fun s2 =>
  h.bind (leads_accessPair h _ _ s2) fun ⟨_, s3⟩ =>
  leads_writePair h _ _ s3

theorem leads_loadFromMemory (fetch : Word → State → Byte) (dst : Place) (rr : Nib) (s : State) :
    Leads R Q s id (loadFromMemory fetch dst rr s) :=
  h.bind (leads_accessPlace h 0 dst s s) fun ⟨_, s1⟩ =>
  h.bind (leads_accessPair h _ _ s1) fun ⟨_, s2⟩ =>
  h.bind (leads_accessMemory h _ _ s2) fun ⟨_, s3⟩ =>
  leads_writeRegister h _ _ s3

theorem leads_storeToMemory {store : Word → Byte → State → State} (hstore : ∀ a v s, R s (store a v s)) (rr : Nib)
    (src : Place) (s : State) : Leads R Q s id (storeToMemory store rr src s) :=
  h.bind (leads_accessPair h _ _ s) fun ⟨_, s1⟩ =>
  h.bind (leads_accessSource h _ s s1) fun ⟨_, s2⟩ =>
  leads_writeMemory h hstore _ _ s2

theorem leads_loadAndIncrement (fetch : Word → State → Byte) (r rr : Nib) (s : State) :
    Leads R Q s id (loadAndIncrement fetch r rr s) :=
  h.bind (leads_loadFromMemory h fetch _ rr s) fun s1 => leads_incrementPointers h _ _ s1

theorem leads_storeAndIncrement {store : Word → Byte → State → State} (hstore : ∀ a v s, R s (store a v s))
    (rr r : Nib) (s : State) : Leads R Q s id (storeAndIncrement store rr r s) :=
  h.bind (leads_storeToMemory h hstore rr _ s) fun s1 => leads_incrementPointers h _ _ s1

theorem primitive_branchIf (taken : Bool) (target : Word) (s : State) : R s (branchIf taken target s) := by
  unfold branchIf
  split
  · exact h.branch target s
  · exact h.refl s

theorem leads_branchOnBit (want : Bool) (b : BitNo) (p : Place) (x : Byte) (s : State) :
    Leads R Q s id (branchOnBit want b p x s) :=
  h.bind (leads_accessSource h _ s s) fun _ => leads_ok (primitive_branchIf h _ _ _)

theorem leads_callTo (target : Word) (s : State) : Leads R Q s id (callTo target s) :=
  h.bind (leads_push16 h _ s) fun s1 => leads_ok (h.branch target s1)

theorem leads_callThrough (a : Byte) (s : State) : Leads R Q s id (callThrough a s) :=
  h.bind (leads_accessPair h _ _ s) fun ⟨_, s1⟩ => leads_callTo h _ s1

theorem leads_jumpThrough (a : Byte) (s : State) : Leads R Q s id (jumpThrough a s) :=
  h.bind (leads_accessPair h _ _ s) fun ⟨_, s1⟩ => leads_ok (h.branch _ s1)

theorem leads_decrementAndJump (n : Nib) (x : Byte) (s : State) : Leads R Q s id (decrementAndJump n x s) :=
  h.bind (leads_accessRegister h _ _ s) fun ⟨_, s1⟩ =>
  h.bind (leads_writeRegister h _ _ s1) fun s2 =>
  leads_ok (primitive_branchIf h _ _ s2)

theorem leads_returnFromCall (s : State) : Leads R Q s id (returnFromCall s) :=
  h.bind (leads_pop16 h 0 s) fun ⟨_, s1⟩ => leads_ok (h.branch _ s1)

theorem leads_illegalInstruction (hatm : ∀ s, R s (withAtm 0 s)) (a : Word) (s : State) :
    Leads R Q s id (illegalInstruction a s) :=
  h.bind (leads_takeException h _ _ _ s) fun s1 => leads_ok (hatm s1)

theorem leads_openAtomicBlock (hopen : ∀ s, R s (withAtm 3 s)) (hclose : ∀ s, R s (withAtm 0 s)) (s : State) :
    Leads R Q s id (openAtomicBlock s) := by
  unfold openAtomicBlock
  split
  · exact leads_ok (hopen s)
  · exact leads_illegalInstruction h hclose _ s

/-! ### Every instruction -/

theorem follows_twoOperand {i : Instr} {op : Op2} {f : Form} (hi : twoOperand i = some (op, f)) (s : State) :
    Follows R Q s (exec i s) := by
  rw [exec_twoOperand hi]
  refine follows_finish ?_
  split
  · exact leads_combine h _ _ _ s
  · exact leads_test h _ _ _ s

theorem follows_oneOperand {i : Instr} {op : Op1} {p : Place} (hi : oneOperand i = some (op, p)) (s : State) :
    Follows R Q s (exec i s) := by
  rw [exec_oneOperand hi]
  exact follows_finish (leads_modify h _ _ s)

theorem follows_loadOperands {i : Instr} {dst : Place} {src : Source} (hi : loadOperands i = some (dst, src))
    (s : State) : Follows R Q s (exec i s) := by
  rw [exec_loadOperands hi]
  exact follows_finish (leads_load h dst src s)

theorem follows_breakpoint (s : State) : Follows R Q s (breakpoint s) := by
  unfold breakpoint
  split
  · exact follows_next (h.refl s)
  · exact fun _ e => nomatch e

/-- Every instruction keeps a relation that registers and the Program Counter keep; the four memory stores, ATM, HALT and
STOP keep it where their own changes do. -/
theorem follows_exec (i : Instr)
    (hprogram : ∀ rr r, i = .ldc_Irr_r rr r ∨ i = .ldci_Irr_Ir rr r → ∀ a v s, R s (writeProgram a v s))
    (hdata : ∀ rr r, i = .lde_Irr_r rr r ∨ i = .ldei_Irr_Ir rr r → ∀ a v s, R s (writeData a v s))
    (hatm : i = .atm → ∀ s, R s (withAtm 3 s) ∧ R s (withAtm 0 s))
    (hmode : i = .halt ∨ i = .stop → ∀ m s, R s (enterMode m s)) (s : State) : Follows R Q s (exec i s) := by
  cases i with
  | adc_r_r | adc_r_Ir | adc_R_R | adc_R_IR | adc_R_IM | adc_IR_IM | adcx_ER_ER | adcx_ER_IM | add_r_r | add_r_Ir | add_R_R
  | add_R_IR | add_R_IM | add_IR_IM | addx_ER_ER | addx_ER_IM | cp_r_r | cp_r_Ir | cp_R_R | cp_R_IR | cp_R_IM | cp_IR_IM
  | cpx_ER_ER | cpx_ER_IM | cpc_r_r | cpc_r_Ir | cpc_R_R | cpc_R_IR | cpc_R_IM | cpc_IR_IM | cpcx_ER_ER | cpcx_ER_IM
  | sbc_r_r | sbc_r_Ir | sbc_R_R | sbc_R_IR | sbc_R_IM | sbc_IR_IM | sbcx_ER_ER | sbcx_ER_IM | sub_r_r | sub_r_Ir | sub_R_R
  | sub_R_IR | sub_R_IM | sub_IR_IM | subx_ER_ER | subx_ER_IM | tcm_r_r | tcm_r_Ir | tcm_R_R | tcm_R_IR | tcm_R_IM
  | tcm_IR_IM | tcmx_ER_ER | tcmx_ER_IM | tm_r_r | tm_r_Ir | tm_R_R | tm_R_IR | tm_R_IM | tm_IR_IM | tmx_ER_ER | tmx_ER_IM
  | and_r_r | and_r_Ir | and_R_R | and_R_IR | and_R_IM | and_IR_IM | andx_ER_ER | andx_ER_IM | or_r_r | or_r_Ir | or_R_R
  | or_R_IR | or_R_IM | or_IR_IM | orx_ER_ER | orx_ER_IM | xor_r_r | xor_r_Ir | xor_R_R | xor_R_IR | xor_R_IM | xor_IR_IM
  | xorx_ER_ER | xorx_ER_IM => exact follows_twoOperand h rfl s
  | da_R | da_IR | dec_R | dec_IR | inc_r | inc_R | inc_IR | bswap_R | com_R | com_IR | rl_R | rl_IR | rlc_R | rlc_IR | rr_R
  | rr_IR | rrc_R | rrc_IR | sra_R | sra_IR | srl_R | srl_IR | swap_R | swap_IR => exact follows_oneOperand h rfl s
  | clr_R | clr_IR | ld_r_IM | ld_R_IM | ld_IR_IM | ld_r_Ir | ld_Ir_r | ld_R_R | ld_R_IR | ld_IR_R | ld_r_Xr | ld_Xr_r
  | ldx_r_ER | ldx_Ir_ER | ldx_R_IRR | ldx_IR_IRR | ldx_r_Xrr | ldx_Xrr_r | ldx_ER_r | ldx_ER_Ir | ldx_IRR_R | ldx_IRR_IR
  | ldx_ER_ER | ldx_ER_IM => exact follows_loadOperands h rfl s
  | decw_RR | decw_IR | incw_RR | incw_IR => exact follows_finish (leads_modifyPair h _ _ s)
  | mult_RR => exact follows_finish (leads_multiply h _ s)
  | bit | bclr | bset => exact follows_finish (leads_modify h _ _ s)
  | ccf | rcf | scf => exact follows_next (h.store 0xFFC _ s)
  | ldc_r_Irr | ldc_Ir_Irr | lde_r_Irr => exact follows_finish (leads_loadFromMemory h _ _ _ s)
  | ldci_Ir_Irr | ldei_Ir_Irr => exact follows_finish (leads_loadAndIncrement h _ _ _ s)
  | ldc_Irr_r => exact follows_finish (leads_storeToMemory h (hprogram _ _ (.inl rfl)) _ _ s)
  | lde_Irr_r => exact follows_finish (leads_storeToMemory h (hdata _ _ (.inl rfl)) _ _ s)
  | ldci_Irr_Ir => exact follows_finish (leads_storeAndIncrement h (hprogram _ _ (.inr rfl)) _ _ s)
  | ldei_Irr_Ir => exact follows_finish (leads_storeAndIncrement h (hdata _ _ (.inr rfl)) _ _ s)
  | atm =>
    exact follows_finish (leads_openAtomicBlock h (fun t => (hatm rfl t).1) (fun t => (hatm rfl t).2) s)
  | halt => exact follows_next (hmode (.inl rfl) .halt s)
  | stop => exact follows_next (hmode (.inr rfl) .stop s)
  | di | ei => exact follows_next (h.store 0xFCF _ s)
  | nop => exact follows_next (h.refl s)
  | srp v => exact follows_next (h.store 0xFFD v s)
  | wdt => exact follows_next (h.watchdog s)
  | ldwx_ER_ER => exact follows_finish (leads_loadWord h _ _ s)
  | lea_r_Xr => exact follows_finish (leads_loadEffective h _ _ _ s)
  | lea_rr_Xrr => exact follows_finish (leads_loadEffectivePair h _ _ _ s)
  | pop_R | pop_IR | popx_ER => exact follows_finish (leads_popInto h _ s)
  | push_R | push_IR | push_IM | pushx_ER => exact follows_finish (leads_pushFrom h _ s)
  | brk => exact follows_breakpoint h s
  | btj_r | btj_Ir | btjnz_r | btjnz_Ir | btjz_r | btjz_Ir => exact follows_finish (leads_branchOnBit h _ _ _ _ s)
  | call_IRR => exact follows_finish (leads_callThrough h _ s)
  | call_DA => exact follows_finish (leads_callTo h _ s)
  | djnz => exact follows_finish (leads_decrementAndJump h _ _ s)
  | iret => exact follows_finish (leads_returnFromException h s)
  | jp_IRR => exact follows_finish (leads_jumpThrough h _ s)
  | jp_DA | jr => exact follows_next (h.branch _ s)
  | jp_cc | jr_cc => exact follows_next (primitive_branchIf h _ _ s)
  | ret => exact follows_finish (leads_returnFromCall h s)
  | trap => exact follows_finish (leads_takeException h _ _ _ s)

end

end Sys2Proof.Proofs

/-! ## The invariant (10_state.md section 1, 20_memory.md section 1) -/

namespace Sys2Proof.Proofs

open Sys2Proof Sys2Proof.Machine Sys2Proof.Claims

/-! ### Where a register write goes -/

theorem isCoreRegister_iff (a : Addr) :
    isCoreRegister a = true ↔ a = 0xFFC ∨ a = 0xFFD ∨ a = 0xFFE ∨ a = 0xFFF ∨ a = 0xFCF := by
  simp only [isCoreRegister, Bool.or_eq_true, decide_eq_true_eq]
  bv_omega

theorem available_of_isCoreRegister {a : Addr} (h : isCoreRegister a = true) (s : State) : available a s = true := by
  simp only [available, h, Bool.true_or]

/-- A register with no field of its own is available where the product has its address. -/
theorem available_of_not_isCoreRegister {a : Addr} (h : isCoreRegister a = false) (s : State) :
    available a s = covers s.product.rfAvailable a.toNat := by
  simp only [available, h, Bool.false_or]

theorem ne_core_of_not_isCoreRegister {a : Addr} (h : isCoreRegister a = false) :
    a ≠ 0xFFC ∧ a ≠ 0xFFD ∧ a ≠ 0xFFE ∧ a ≠ 0xFFF ∧ a ≠ 0xFCF := by
  have none : ¬ (a = 0xFFC ∨ a = 0xFFD ∨ a = 0xFFE ∨ a = 0xFFF ∨ a = 0xFCF) := fun e =>
    Bool.false_ne_true (h.symm.trans ((isCoreRegister_iff a).mpr e))
  simpa only [not_or] using none

theorem storeRegister_of_unavailable {a : Addr} {s : State} (v : Byte) (h : available a s = false) :
    storeRegister a v s = s := by
  have hcore : isCoreRegister a = false := by
    simp only [available, Bool.or_eq_false_iff] at h
    exact h.1
  obtain ⟨h1, h2, h3, h4, h5⟩ := ne_core_of_not_isCoreRegister hcore
  simp only [storeRegister, if_neg h1, if_neg h2, if_neg h3, if_neg h4, if_neg h5, h, Bool.not_false, if_true]

/-- What an available register of the Register File presents after the core writes `v` to it. -/
def presented (a : Addr) (v : Byte) (s : State) : Byte :=
  if isPlatform a then Config.platformByte s.tick a (readCell rfBlank s.rf a.toNat) v else v

theorem storeRegister_of_available {a : Addr} {s : State} (v : Byte) (hcore : isCoreRegister a = false)
    (h : available a s = true) :
    storeRegister a v s = withRf (writeCell rfBlank s.rf a.toNat (presented a v s)) s := by
  obtain ⟨h1, h2, h3, h4, h5⟩ := ne_core_of_not_isCoreRegister hcore
  simp only [storeRegister, if_neg h1, if_neg h2, if_neg h3, if_neg h4, if_neg h5, h, Bool.not_true, Bool.false_eq_true,
    if_false, presented]
  split <;> rfl

/-! ### What every change keeps -/

/-- The invariant without its last part, which holds between two steps only. -/
structure Sound (s : State) : Prop where
  rf_wf : Memory.wf rfBlank s.rf = true
  pm_wf : Memory.wf memBlank s.pm = true
  dm_wf : Memory.wf memBlank s.dm = true
  rf_own : ∀ c ∈ s.rf, c.1 < 0xFFC ∧ c.1 ≠ 0xFCF
  rf_exists : ∀ c ∈ s.rf, covers s.product.rfAvailable c.1 = true
  pm_bound : ∀ c ∈ s.pm, c.1 < 65536
  dm_bound : ∀ c ∈ s.dm, c.1 < 65536
  atm_le : s.atm ≤ 3

theorem sound_of_inv {s : State} (h : s.Inv) : Sound s :=
  ⟨h.rf_wf, h.pm_wf, h.dm_wf, h.rf_own, h.rf_exists, h.pm_bound, h.dm_bound, h.atm_le⟩

theorem inv_of_sound {s : State} (h : Sound s) (hm : s.midway = []) : s.Inv :=
  ⟨h.rf_wf, h.pm_wf, h.dm_wf, h.rf_own, h.rf_exists, h.pm_bound, h.dm_bound, h.atm_le, hm⟩

/-- From `s` to `t` the product stays and the state stays sound. -/
def Keeps (s t : State) : Prop := t.product = s.product ∧ (Sound s → Sound t)

theorem keeps_refl (s : State) : Keeps s s := ⟨rfl, id⟩

theorem keeps_trans {s t u : State} (h : Keeps s t) (k : Keeps t u) : Keeps s u := ⟨k.1.trans h.1, k.2 ∘ h.2⟩

/-- Soundness is about the memories, the atomic block and the product alone. -/
theorem keeps_of_same {s t : State} (hrf : t.rf = s.rf) (hpm : t.pm = s.pm) (hdm : t.dm = s.dm) (hatm : t.atm = s.atm)
    (hproduct : t.product = s.product) : Keeps s t := by
  refine ⟨hproduct, fun hs => ⟨?_, ?_, ?_, ?_, ?_, ?_, ?_, ?_⟩⟩
  · exact hrf ▸ hs.rf_wf
  · exact hpm ▸ hs.pm_wf
  · exact hdm ▸ hs.dm_wf
  · exact hrf ▸ hs.rf_own
  · exact hrf ▸ hproduct ▸ hs.rf_exists
  · exact hpm ▸ hs.pm_bound
  · exact hdm ▸ hs.dm_bound
  · exact hatm ▸ hs.atm_le

theorem keeps_withAtm {n : Nat} (hn : n ≤ 3) (s : State) : Keeps s (withAtm n s) :=
  ⟨rfl, fun hs => { hs with atm_le := hn }⟩

/-- What the agents outside the core are yet to do is no part of soundness. -/
theorem keeps_withMidway (ms : List (List Move)) (s : State) : Keeps s (withMidway ms s) :=
  keeps_of_same rfl rfl rfl rfl rfl

theorem keeps_withInputs (is : List Input) (s : State) : Keeps s (withInputs is s) :=
  keeps_of_same rfl rfl rfl rfl rfl

theorem keeps_acknowledge (v : Word) (s : State) : Keeps s (acknowledge v s) := keeps_of_same rfl rfl rfl rfl rfl

theorem keeps_withMode (m : Mode) (s : State) : Keeps s (withMode m s) := keeps_of_same rfl rfl rfl rfl rfl

/-- The Register File takes a byte at an address that exists and has no field of its own. -/
theorem keeps_withRf_writeCell {a : Addr} {s : State} (v : Byte) (hcore : isCoreRegister a = false)
    (ha : available a s = true) : Keeps s (withRf (writeCell rfBlank s.rf a.toNat v) s) := by
  have own : a.toNat < 0xFFC ∧ a.toNat ≠ 0xFCF := by
    simp only [isCoreRegister, Bool.or_eq_false_iff, decide_eq_false_iff_not] at hcore
    bv_omega
  have known : covers s.product.rfAvailable a.toNat = true := (available_of_not_isCoreRegister hcore s) ▸ ha
  refine ⟨rfl, fun hs => { hs with rf_wf := wf_writeCell _ _ _ _ hs.rf_wf, rf_own := ?own, rf_exists := ?exist }⟩
  case own =>
    intro c hc
    rcases mem_writeCell _ _ _ _ c hc with rfl | hc
    · exact own
    · exact hs.rf_own c hc
  case exist =>
    intro c hc
    rcases mem_writeCell _ _ _ _ c hc with rfl | hc
    · exact known
    · exact hs.rf_exists c hc

theorem keeps_storeRegister (a : Addr) (v : Byte) (s : State) : Keeps s (storeRegister a v s) := by
  cases ha : available a s with
  | false =>
    rw [storeRegister_of_unavailable v ha]
    exact keeps_refl s
  | true =>
    cases hcore : isCoreRegister a with
    | false =>
      rw [storeRegister_of_available v hcore ha]
      exact keeps_withRf_writeCell _ hcore ha
    | true =>
      rcases (isCoreRegister_iff a).mp hcore with rfl | rfl | rfl | rfl | rfl <;> exact keeps_of_same rfl rfl rfl rfl rfl

theorem keeps_writeProgram (a : Word) (v : Byte) (s : State) : Keeps s (writeProgram a v s) := by
  unfold writeProgram
  split
  case isFalse => exact keeps_refl s
  case isTrue =>
    refine ⟨rfl, fun hs => { hs with pm_wf := wf_writeCell _ _ _ _ hs.pm_wf, pm_bound := fun c hc => ?_ }⟩
    rcases mem_writeCell _ _ _ _ c hc with rfl | hc
    · exact a.isLt
    · exact hs.pm_bound c hc

theorem keeps_writeData (a : Word) (v : Byte) (s : State) : Keeps s (writeData a v s) := by
  unfold writeData
  split
  case isFalse => exact keeps_refl s
  case isTrue =>
    refine ⟨rfl, fun hs => { hs with dm_wf := wf_writeCell _ _ _ _ hs.dm_wf, dm_bound := fun c hc => ?_ }⟩
    rcases mem_writeCell _ _ _ _ c hc with rfl | hc
    · exact a.isLt
    · exact hs.dm_bound c hc

/-- A Reset keeps both memories and drops registers only. -/
theorem keeps_resetAgain (s : State) : Keeps s (resetAgain s) := by
  refine ⟨rfl, fun hs => ⟨wf_filter _ _ _ hs.rf_wf, hs.pm_wf, hs.dm_wf, ?own, ?exist, hs.pm_bound, hs.dm_bound,
    Nat.zero_le 3⟩⟩
  case own => exact fun c hc => hs.rf_own c (List.mem_filter.mp hc).1
  case exist => exact fun c hc => hs.rf_exists c (List.mem_filter.mp hc).1

/-! ### The moves of outside agents -/

theorem keeps_present (a : Addr) (v : Byte) (s : State) : Keeps s (present a v s) := by
  unfold present
  split
  case isFalse => exact keeps_refl s
  case isTrue h =>
    simp only [isPlatform, Bool.and_eq_true, Bool.not_eq_true'] at h
    obtain ⟨⟨-, hcore⟩, ha⟩ := h
    exact keeps_withRf_writeCell v hcore ha

theorem keeps_storeAt (l : Location) (v : Byte) (s : State) : Keeps s (storeAt l v s) := by
  cases l with
  | register a => exact keeps_storeRegister a v s
  | program a => exact keeps_writeProgram a v s
  | data a => exact keeps_writeData a v s

/-- Every move but a Reset answers a state that is kept sound, and a Reset leaves it to `resetAgain`. -/
theorem leads_makeMove (m : Move) (s : State) : Leads Keeps Keeps s id (makeMove m s) := by
  cases m with
  | present a v => exact leads_ok (keeps_present a v s)
  | dmaRead l =>
    refine leads_ok ?_
    split
    · exact keeps_of_same rfl rfl rfl rfl rfl
    · exact keeps_refl s
  | dmaWrite l v =>
    refine leads_ok ?_
    split
    · exact keeps_trans (keeps_storeAt l v s) (keeps_of_same rfl rfl rfl rfl rfl)
    · exact keeps_refl s
  | reset => exact ⟨fun _ e => (nomatch e), fun _ e => Stop.reset.inj (Except.error.inj e) ▸ keeps_refl s⟩

theorem composes_keeps : Composes Keeps Keeps where
  refl := keeps_refl
  trans := keeps_trans
  before := keeps_trans

theorem leads_makeMoves (ms : List Move) (s : State) : Leads Keeps Keeps s id (makeMoves ms s) := by
  induction ms generalizing s with
  | nil => exact leads_ok (keeps_refl s)
  | cons m ms ih => exact leads_bind composes_keeps (leads_makeMove m s) ih

theorem leads_gap (s : State) : Leads Keeps Keeps s id (gap s) := by
  unfold gap
  split
  · exact leads_ok (keeps_refl s)
  · exact leads_after composes_keeps (keeps_withMidway _ s) (leads_makeMoves _ _)

theorem primitive_keeps : Primitive Keeps Keeps where
  toComposes := composes_keeps
  gap := leads_gap
  store := keeps_storeRegister
  branch _ _ := keeps_of_same rfl rfl rfl rfl rfl
  watchdog _ := keeps_of_same rfl rfl rfl rfl rfl

theorem keeps_enterMode (m : Mode) (s : State) : Keeps s (enterMode m s) := by
  refine keeps_trans (keeps_withMode m s) (keeps_withAtm ?_ _)
  split <;> omega

theorem follows_exec_keeps (i : Instr) (s : State) : Follows Keeps Keeps s (exec i s) :=
  follows_exec primitive_keeps i (fun _ _ _ => keeps_writeProgram) (fun _ _ _ => keeps_writeData)
    (fun _ t => ⟨keeps_withAtm (Nat.le_refl 3) t, keeps_withAtm (Nat.zero_le 3) t⟩) (fun _ => keeps_enterMode) s

/-! ### A step -/

/-- The step from `s` keeps the state sound and leaves no move of an outside agent over. -/
def Closes (s : State) (o : Out) : Prop := ∀ t, o = .next t → Keeps s t ∧ t.midway = []

theorem closes_next {s t : State} (h : Keeps s t) (hm : t.midway = []) : Closes s (.next t) :=
  fun _ e => Host.Outcome.next.inj e ▸ ⟨h, hm⟩

theorem closes_after {s t : State} {o : Out} (h : Keeps s t) (ho : Closes t o) : Closes s o :=
  fun u e => ⟨keeps_trans h (ho u e).1, (ho u e).2⟩

theorem closes_closeStep {s t : State} (h : Keeps s t) : Closes s (.next (closeStep t)) :=
  closes_next (keeps_trans h (keeps_of_same rfl rfl rfl rfl rfl)) rfl

theorem keeps_of_follows {s t : State} {o : Out} (h : Follows Keeps Keeps s o) (ho : o = .next t) : Keeps s t := by
  rcases h t ho with ht | ⟨u, hu, rfl⟩
  · exact ht
  · exact keeps_trans hu (keeps_resetAgain u)

theorem closes_closeEntry {s : State} {r : Res State} (h : Leads Keeps Keeps s id r) : Closes s (closeEntry r) := by
  unfold closeEntry
  split
  case h_1 ho => exact closes_closeStep (keeps_of_follows (follows_finish h) ho)
  case h_2 => exact fun _ e => nomatch e
  case h_3 => exact fun _ e => nomatch e

theorem closes_runInstruction (i : Instr) (n : Nat) (s : State) : Closes s (runInstruction i n s) := by
  have start : Keeps s (withPc (s.pc + BitVec.ofNat 16 n) s) := keeps_of_same rfl rfl rfl rfl rfl
  unfold runInstruction
  split
  case h_1 t ho =>
    have run : Keeps s t := keeps_trans start (keeps_of_follows (follows_exec_keeps i _) ho)
    refine closes_after run (closes_closeStep ?_)
    split
    · exact ⟨rfl, fun hs => { hs with atm_le := (Nat.sub_le _ _).trans hs.atm_le }⟩
    · exact keeps_refl t
  case h_2 => exact fun _ e => nomatch e
  case h_3 => exact fun _ e => nomatch e

theorem closes_trapHere (s : State) : Closes s (trapHere s) :=
  closes_closeEntry (leads_illegalInstruction primitive_keeps (keeps_withAtm (Nat.zero_le 3)) _ s)

theorem closes_executeHere (s : State) : Closes s (executeHere s) := by
  unfold executeHere
  split
  · exact closes_runInstruction _ _ s
  · split
    · exact closes_runInstruction _ _ s
    · exact closes_trapHere s
  all_goals exact closes_trapHere s

theorem closes_coreStep (s : State) : Closes s (coreStep s) := by
  unfold coreStep
  split
  · exact closes_executeHere s
  all_goals exact closes_closeStep (keeps_refl s)

theorem leads_interruptEntry (v : Word) (s : State) : Leads Keeps Keeps s id (interruptEntry v s) :=
  leads_bind composes_keeps
    (leads_after composes_keeps (keeps_acknowledge v s) (leads_takeException primitive_keeps _ _ _ _))
    fun s1 => leads_ok (keeps_withMode .run s1)

theorem leads_timeoutEntry (pushesFrame clears : Bool) (s : State) :
    Leads Keeps Keeps s id (timeoutEntry pushesFrame clears s) := by
  unfold timeoutEntry
  split
  · exact leads_bind composes_keeps (leads_takeException primitive_keeps _ _ _ s) fun s1 =>
      leads_ok (keeps_withMode .run s1)
  · exact leads_bind composes_keeps
      (leads_after composes_keeps (primitive_clear primitive_keeps clears s) (leads_accessVector primitive_keeps _ _))
      fun _ => leads_ok (keeps_of_same rfl rfl rfl rfl rfl)

theorem closes_offeredStep (v : Word) (s : State) : Closes s (offeredStep v s) := by
  unfold offeredStep
  split
  · exact closes_closeEntry (leads_interruptEntry v s)
  split
  · exact closes_closeStep (keeps_withMode .run s)
  · exact closes_coreStep s

theorem closes_timeoutStep (s : State) : Closes s (timeoutStep s) := by
  unfold timeoutStep
  split
  · split
    · exact closes_coreStep s
    · exact closes_next (keeps_resetAgain s) rfl
    · split
      · exact closes_closeEntry (leads_timeoutEntry _ _ s)
      · exact closes_coreStep s
  · exact closes_coreStep s

theorem closes_signalledStep (g : Signal) (s : State) : Closes s (signalledStep g s) := by
  cases g with
  | quiet => exact closes_coreStep s
  | offer v => exact closes_offeredStep v s
  | timeout => exact closes_timeoutStep s

theorem storeAt_midway (l : Location) (v : Byte) (s : State) : (storeAt l v s).midway = s.midway := by
  cases l with
  | register a => exact storeRegister_midway a v s
  | program a =>
    obtain ⟨pm, stale, h⟩ := writeProgram_fields a v s
    exact (congrArg State.midway h).trans rfl
  | data a =>
    obtain ⟨dm, h⟩ := writeData_fields a v s
    exact (congrArg State.midway h).trans rfl

/-- A move is no byte access and uses no other move up. -/
theorem makeMove_midway {m : Move} {s t : State} (h : makeMove m s = .ok t) : t.midway = s.midway := by
  cases m with
  | present a v =>
    rw [← Except.ok.inj h]
    unfold present
    split <;> rfl
  | dmaRead l =>
    rw [← Except.ok.inj h]
    split <;> rfl
  | dmaWrite l v =>
    rw [← Except.ok.inj h]
    split
    · exact storeAt_midway l v s
    · rfl
  | reset => exact nomatch h

theorem closes_agentMove (m : Move) {s : State} (hs : s.midway = []) : Closes s (finish (makeMove m s)) := fun t e => by
  refine ⟨keeps_of_follows (follows_finish (leads_makeMove m s)) e, ?_⟩
  rcases (finish_next _ t).mp e with moved | ⟨u, -, rfl⟩
  · exact (makeMove_midway moved).trans hs
  · rfl

theorem closes_step (s : State) : Closes s (step s) := by
  unfold step cycle
  split
  · exact closes_after (keeps_withMidway [] s) (closes_coreStep _)
  · exact closes_after (keeps_trans (keeps_withInputs _ s) (keeps_withMidway _ _)) (closes_agentMove _ rfl)
  · exact closes_after (keeps_trans (keeps_withInputs _ s) (keeps_withMidway _ _)) (closes_signalledStep _ _)

/-- Settles O60: every change an instruction or an outside agent makes keeps the memories canonical, bounded and within
what the product has, and every step ends with no move left over. -/
theorem invariantKept : Obligations.InvariantKept := by
  unfold Obligations.InvariantKept
  intro s t h
  obtain ⟨⟨hproduct, hsound⟩, hmidway⟩ := closes_step s t h
  exact ⟨hproduct, fun hs => inv_of_sound (hsound (sound_of_inv hs)) hmidway⟩

/-- Settles O59: after reset all three memories are empty and the counters are 0. -/
theorem invariantAtReset : Obligations.InvariantAtReset := by
  obtain ⟨rf_wf, pm_wf, dm_wf⟩ := reset_memories_wf
  exact ⟨rf_wf, pm_wf, dm_wf, fun _ h => (nomatch h), fun _ h => (nomatch h), fun _ h => (nomatch h),
    fun _ h => (nomatch h), Nat.zero_le 3, rfl⟩

/-! ### What an undisturbed instruction leaves alone -/

/-- The part `p` of the state is left alone where no outside agent moves in the middle. -/
def Untouched {α : Type} (p : State → α) (s t : State) : Prop :=
  Undisturbed s → Undisturbed t ∧ p t = p s

/-- No undisturbed state is related to any: where no outside agent moves, no Reset comes. -/
def NoReset (s _t : State) : Prop := ¬ Undisturbed s

theorem primitive_untouched {α : Type} {p : State → α} (hstore : ∀ a v s, p (storeRegister a v s) = p s)
    (hbranch : ∀ target s, p (branchTo target s) = p s) (hwatchdog : ∀ s, p (refreshWatchdog s) = p s) :
    Primitive (Untouched p) NoReset where
  refl _ h := ⟨h, rfl⟩
  trans first second h := by
    obtain ⟨ht, e1⟩ := first h
    obtain ⟨hu, e2⟩ := second ht
    exact ⟨hu, e2.trans e1⟩
  before first second h := second (first h).1
  gap s := by
    refine ⟨fun t e h => ?_, fun u e h => ?_⟩
    · rw [gap_undisturbed s h] at e
      exact Except.ok.inj e ▸ ⟨h, rfl⟩
    · rw [gap_undisturbed s h] at e
      exact nomatch e
  store a v s h := ⟨(storeRegister_midway a v s).trans h, hstore a v s⟩
  branch target s h := ⟨h, hbranch target s⟩
  watchdog s h := ⟨h, hwatchdog s⟩

theorem eq_of_follows_untouched {α : Type} {p : State → α} {s t : State} {o : Out}
    (h : Follows (Untouched p) NoReset s o) (hs : Undisturbed s) (ho : o = .next t) : p t = p s := by
  rcases h t ho with ht | ⟨u, hu, -⟩
  · exact (ht hs).2
  · exact absurd hs hu

theorem untouched_writeProgram {α : Type} {p : State → α}
    (hp : ∀ s pm stale, p { s with pm := pm, stale := stale } = p s) (a : Word) (v : Byte) (s : State) :
    Untouched p s (writeProgram a v s) := fun h => by
  obtain ⟨pm, stale, e⟩ := writeProgram_fields a v s
  rw [e]
  exact ⟨h, hp s pm stale⟩

theorem untouched_writeData {α : Type} {p : State → α} (hp : ∀ s dm, p { s with dm := dm } = p s) (a : Word) (v : Byte)
    (s : State) : Untouched p s (writeData a v s) := fun h => by
  obtain ⟨dm, e⟩ := writeData_fields a v s
  rw [e]
  exact ⟨h, hp s dm⟩

/-- Settles O16: neither memory is a part of what an instruction's primitive changes touch, and each store touches its own
memory alone. -/
theorem memoryWriters : Obligations.MemoryWriters := by
  unfold Obligations.MemoryWriters
  intro i s t hs ht
  constructor
  case left =>
    intro notStore
    refine eq_of_follows_untouched (p := State.pm) (follows_exec (primitive_untouched storeRegister_pm ?_ ?_) i ?program
      ?data (fun _ _ => ⟨fun h => ⟨h, rfl⟩, fun h => ⟨h, rfl⟩⟩) (fun _ _ _ h => ⟨h, rfl⟩) s) hs ht
    · exact fun _ _ => rfl
    · exact fun _ => rfl
    case program => exact fun rr r hi => (hi.elim (notStore rr r).1 (notStore rr r).2).elim
    case data => exact fun _ _ _ => untouched_writeData fun _ _ => rfl
  case right =>
    intro notStore
    refine eq_of_follows_untouched (p := State.dm) (follows_exec (primitive_untouched storeRegister_dm ?_ ?_) i ?program
      ?data (fun _ _ => ⟨fun h => ⟨h, rfl⟩, fun h => ⟨h, rfl⟩⟩) (fun _ _ _ h => ⟨h, rfl⟩) s) hs ht
    · exact fun _ _ => rfl
    · exact fun _ => rfl
    case program => exact fun _ _ _ => untouched_writeProgram fun _ _ _ => rfl
    case data => exact fun rr r hi => (hi.elim (notStore rr r).1 (notStore rr r).2).elim

end Sys2Proof.Proofs

/-! ## Undefined opcodes and fixed nibbles (30_encoding.md sections 2, 5 and 6) -/

namespace Sys2Proof.Proofs

open Sys2Proof Sys2Proof.Machine Sys2Proof.Claims

/-! ### Undefined opcodes (R147) -/

theorem not_undefined_decodeOperands {n : Nat} {l : Layout} {operands : List Byte} :
    ¬ Undefined (decodeOperands n l operands) := by
  unfold decodeOperands
  split
  · exact id
  · dsimp only
    split <;> exact id

theorem undefined_decode_firstMap {op : Byte} (rest : List Byte) (hop : op ≠ 0x1F) :
    Undefined (decode (op :: rest)) ↔ firstMap op = none := by
  cases hl : firstMap op with
  | none =>
    rw [decode_of_firstMap_none rest hop hl]
    exact iff_of_true trivial rfl
  | some l =>
    rw [decode_of_firstMap rest hop hl]
    exact iff_of_false not_undefined_decodeOperands (Option.some_ne_none l)

theorem undefined_decode_tableSecond (op2 : Byte) (operands : List Byte) :
    Undefined (decode (0x1F :: op2 :: operands)) ↔ tableSecond op2.toNat = none := by
  cases hl : tableSecond op2.toNat with
  | none =>
    rw [decode_of_tableSecond_none operands hl]
    exact iff_of_true trivial rfl
  | some l =>
    rw [decode_of_tableSecond operands hl]
    exact iff_of_false not_undefined_decodeOperands (Option.some_ne_none l)

/-- The gaps of the first map, row by row and column by column; 1Fh opens the second map. -/
theorem firstMap_isNone_append : ∀ h l : Nib, h ++ l ≠ (0x1F : Byte) →
    (firstMap (h ++ l)).isNone = decide ((h ++ l : Byte) ∈ illegalFirstMap) := by
  decide

/-- The entries of the second map, row by row and column by column. -/
theorem tableSecond_isNone_append : ∀ h l : Nib,
    (tableSecond (h ++ l : Byte).toNat).isNone = decide ((h ++ l : Byte) ∉ legalSecondMap) := by
  decide

theorem firstMap_eq_none_iff {op : Byte} (hop : op ≠ 0x1F) : firstMap op = none ↔ op ∈ illegalFirstMap := by
  have gap := firstMap_isNone_append (highNib op) (lowNib op)
  rw [highNib_append_lowNib] at gap
  rw [← Option.isNone_iff_eq_none, gap hop, decide_eq_true_eq]

theorem tableSecond_eq_none_iff (op2 : Byte) : tableSecond op2.toNat = none ↔ op2 ∉ legalSecondMap := by
  have gap := tableSecond_isNone_append (highNib op2) (lowNib op2)
  rw [highNib_append_lowNib] at gap
  rw [← Option.isNone_iff_eq_none, gap, decide_eq_true_eq]

/-- R147: the undefined opcodes of both maps. -/
theorem undefined_decode_iff (op b1 : Byte) (rest : List Byte) :
    Undefined (decode (op :: b1 :: rest)) ↔ op ∈ illegalFirstMap ∨ (op = 0x1F ∧ b1 ∉ legalSecondMap) := by
  by_cases hop : op = 0x1F
  case pos =>
    subst hop
    have opens : (0x1F : Byte) ∉ illegalFirstMap := by decide
    simp only [undefined_decode_tableSecond, tableSecond_eq_none_iff, opens, false_or, true_and]
  case neg => simp only [undefined_decode_firstMap _ hop, firstMap_eq_none_iff hop, hop, false_and, or_false]

theorem executeHere_of_undefined {s : State} (h : Undefined (decode (fetchBytes s))) :
    executeHere s = closeEntry (illegalInstruction s.pc s) := by
  unfold executeHere
  cases hd : decode (fetchBytes s) with
  | illegalFirst => rfl
  | illegalSecond => rfl
  | ok | reserved | truncated => exact absurd h (hd ▸ id)

/-! ### Entries where there is room for the frame (46_program_control.md R325) -/

theorem sameOutside_setStackPointer (v : Addr) (s : State) : SameOutside s (setStackPointer v s) := by
  rw [setStackPointer_eq_storeRegister]
  exact sameOutside_trans (sameOutside_storeRegister _ _ s) (sameOutside_storeRegister _ _ _)

theorem sameOutside_setInterruptsEnabled (b : Bool) (s : State) : SameOutside s (setInterruptsEnabled b s) := by
  rw [setInterruptsEnabled_eq_storeRegister]
  exact sameOutside_storeRegister _ _ s

theorem sameOutside_pushed (v : Byte) (s : State) : SameOutside s (pushed v s) :=
  sameOutside_trans (sameOutside_setStackPointer _ s) (sameOutside_storeRegister _ v _)

theorem sameOutside_popped (s : State) : SameOutside s (popped s) := sameOutside_setStackPointer _ s

theorem sameOutside_pushedWord (w : Word) (s : State) : SameOutside s (pushedWord w s) :=
  sameOutside_trans (sameOutside_pushed _ s) (sameOutside_pushed _ _)

theorem sameOutside_withFrame (ret : Word) (s : State) : SameOutside s (withFrame ret s) :=
  sameOutside_trans (sameOutside_pushedWord ret s) (sameOutside_pushed _ _)

/-- The state of an entry before its branch. -/
def framed (ret : Word) (clears : Bool) (s : State) : State :=
  if clears then setInterruptsEnabled false (withFrame ret s) else withFrame ret s

theorem entered_eq_branchTo_framed (ret vector : Word) (clears : Bool) (s : State) :
    entered ret vector clears s = branchTo (programWord vector s) (framed ret clears s) := rfl

theorem sameOutside_framed (ret : Word) (clears : Bool) (s : State) : SameOutside s (framed ret clears s) := by
  unfold framed
  split
  · exact sameOutside_trans (sameOutside_withFrame ret s) (sameOutside_setInterruptsEnabled false _)
  · exact sameOutside_withFrame ret s

theorem programWord_of_sameOutside {s t : State} (h : SameOutside s t) (a : Word) :
    programWord a t = programWord a s := by
  have first := h.program a
  have second := h.program (a + 1)
  exact congrArg₂ (fun hi lo : Byte => (hi ++ lo : Word)) first second

/-- An entry with room for its frame is the one the statements write. -/
theorem takeException_of_roomForFrame {ret : Word} {s : State} (vector : Word) (clears : Bool) (hs : Undisturbed s)
    (room : RoomForFrame ret s) : takeException ret vector clears s = .ok (entered ret vector clears s) := by
  obtain ⟨roomForReturn, roomForFlags⟩ := room
  have hw : Undisturbed (pushedWord ret s) := undisturbed_pushed _ (undisturbed_pushed _ hs)
  refine (takeException_ok ret vector clears s _ hs).mpr
    ⟨_, _, push16_of_roomForWord hs roomForReturn, push8_of_pushable _ hw roomForFlags, ?_⟩
  rw [entered_eq_branchTo_framed, ← programWord_of_sameOutside (sameOutside_framed ret clears s)]
  rfl

theorem illegalInstruction_of_roomForFrame {a : Word} {s : State} (hs : Undisturbed s) (room : RoomForFrame a s) :
    illegalInstruction a s = .ok { entered a 0x0006 s.product.trapClearsIrqe s with atm := 0 } :=
  (illegalInstruction_ok a s _).mpr ⟨_, takeException_of_roomForFrame _ _ hs room, rfl⟩

/-- Settles O3: the undefined opcodes are the gaps of the two maps, and the trap is the one entry with a closed block. -/
theorem undefinedOpcodesTrap : Obligations.UndefinedOpcodesTrap := by
  unfold Obligations.UndefinedOpcodesTrap
  exact ⟨fun op b1 b2 b3 b4 => undefined_decode_iff op b1 [b2, b3, b4], fun _ => executeHere_of_undefined,
    fun _ _ => illegalInstruction_of_roomForFrame⟩

/-! ### Fixed nibbles (R119) -/

/-- With a non-zero nibble in the fixed place of `IM_ER1` the operands are read all the same. -/
theorem decodeOperands_IM_ER1_reserved (n : Nat) (f : Addr → Byte → Instr) (d : Addr) (v : Byte) {x : Nib}
    (hx : x ≠ 0) : decodeOperands n (.IM_ER1 f) [v, x ++ d.extractLsb' 8 4, d.extractLsb' 0 8] =
      .reserved (f d v) (n + 3) := by
  simpa [decodeOperands, Layout.size, Layout.read, addr_high_append_low] using hx

theorem decodeOperands_ER_0_reserved (n : Nat) (f : Addr → Instr) (a : Addr) {x : Nib} (hx : x ≠ 0) :
    decodeOperands n (.ER_0 f) [a.extractLsb' 4 8, a.extractLsb' 0 4 ++ x] = .reserved (f a) (n + 2) := by
  simpa [decodeOperands, Layout.size, Layout.read, addr_page_append_low] using hx

/-- The `ER_IM` instruction of a group. -/
def immediateForm (op : Op2) (d : Addr) (v : Byte) : Instr :=
  match op with
  | .add => .addx_ER_IM d v
  | .adc => .adcx_ER_IM d v
  | .sub => .subx_ER_IM d v
  | .sbc => .sbcx_ER_IM d v
  | .or => .orx_ER_IM d v
  | .and => .andx_ER_IM d v
  | .tcm => .tcmx_ER_IM d v
  | .tm => .tmx_ER_IM d v
  | .cp => .cpx_ER_IM d v
  | .cpc => .cpcx_ER_IM d v
  | .xor => .xorx_ER_IM d v

theorem twoOperand_immediateForm (op : Op2) (d : Addr) (v : Byte) :
    twoOperand (immediateForm op d v) = some (op, .ER_IM d v) := by
  cases op <;> rfl

theorem firstMap_group_9 {op : Op2} (hop : op ≠ .cpc) :
    firstMap (op.group ++ 0x9#4) = some (.IM_ER1 (immediateForm op)) := by
  cases op with
  | cpc => exact absurd rfl hop
  | add | adc | sub | sbc | or | and | tcm | tm | cp | xor => rfl

theorem decode_immediateForm_reserved (op : Op2) (d : Addr) (v : Byte) {x : Nib} (hx : x ≠ 0) :
    decode ((if op = .cpc then [0x1F] else []) ++ [op.group ++ 0x9#4, v, x ++ d.extractLsb' 8 4, d.extractLsb' 0 8]) =
      .reserved (immediateForm op d v) (if op = .cpc then 5 else 4) := by
  by_cases hop : op = .cpc
  case pos =>
    subst hop
    exact (decode_of_tableSecond (op2 := 0xA9) _ rfl).trans (decodeOperands_IM_ER1_reserved 2 _ d v hx)
  case neg =>
    rw [if_neg hop, if_neg hop, List.nil_append,
      decode_of_firstMap _ (append_ne_prefix _ (by decide)) (firstMap_group_9 hop)]
    exact decodeOperands_IM_ER1_reserved 1 _ d v hx

/-- The formats with a fixed nibble. -/
def hasFixedNibble : Layout → Bool
  | .ER_0 _ => true
  | .IM_ER1 _ => true
  | _ => false

/-- Only a format with a fixed nibble can be read with a non-zero one. -/
theorem layout_of_decodeOperands_reserved {n m : Nat} {l : Layout} {operands : List Byte} {i : Instr}
    (h : decodeOperands n l operands = .reserved i m) :
    hasFixedNibble l = true ∧ ∃ b1 b2 b3, i = (l.read b1 b2 b3).1 := by
  unfold decodeOperands at h
  dsimp only at h
  split at h
  case isTrue => cases h
  case isFalse =>
    split at h
    case isTrue => cases h
    case isFalse hnibble =>
      cases h
      refine ⟨?_, _, _, _, rfl⟩
      cases l with
      | ER_0 | IM_ER1 => rfl
      | alone | oneByte | r1r2 | r2r1 | pbr | R2_R1 | R1_IM | r1r2_X | r2r1_X | rr1r2_X | pbr_RA | r_ER_dst | r_ER_src
      | DA | ER2_ER1 => exact absurd rfl hnibble

/-- What is read with a non-zero fixed nibble has its format from one of the two maps. -/
theorem layout_of_decode_reserved {bs : List Byte} {i : Instr} {m : Nat} (h : decode bs = .reserved i m) :
    ∃ (l : Layout) (op : Byte), (firstMap op = some l ∨ tableSecond op.toNat = some l) ∧ hasFixedNibble l = true ∧
      ∃ b1 b2 b3, i = (l.read b1 b2 b3).1 := by
  unfold decode at h
  split at h
  case h_1 => cases h
  case h_2 op rest =>
    split at h
    case isTrue =>
      split at h
      case h_1 => cases h
      case h_2 op2 operands =>
        split at h
        case h_1 l hl => exact ⟨l, op2, .inr hl, layout_of_decodeOperands_reserved h⟩
        case h_2 => cases h
    case isFalse =>
      split at h
      case h_1 l hl => exact ⟨l, op, .inl hl, layout_of_decodeOperands_reserved h⟩
      case h_2 => cases h

/-- The groups whose `ER_IM` form stands on the first map. -/
def firstMapGroups : List Op2 := [.add, .adc, .sub, .sbc, .or, .and, .tcm, .tm, .cp, .xor]

/-- Where the first map has a format with a fixed nibble, row by row and column by column. -/
theorem firstMap_hasFixedNibble_append : ∀ h l : Nib, (firstMap (h ++ l)).any hasFixedNibble = true →
    h ++ l ∈ firstMapGroups.map (·.group ++ 0x9#4) ∨ h ++ l = (0xE9 : Byte) ∨ h ++ l = (0xC8 : Byte) ∨
      h ++ l = (0xD8 : Byte) := by
  decide

/-- Where the second map has one. -/
theorem tableSecond_hasFixedNibble_append : ∀ h l : Nib,
    (tableSecond (h ++ l : Byte).toNat).any hasFixedNibble = true → h ++ l = (0xA9 : Byte) := by
  decide

/-- The formats with a fixed nibble, by the instruction they belong to. -/
theorem layout_of_firstMap {op : Byte} {l : Layout} (hl : firstMap op = some l) (hfixed : hasFixedNibble l = true) :
    (∃ g, l = .IM_ER1 (immediateForm g)) ∨ l = .IM_ER1 .ldx_ER_IM ∨ l = .ER_0 .pushx_ER ∨ l = .ER_0 .popx_ER := by
  have place := firstMap_hasFixedNibble_append (highNib op) (lowNib op)
  rw [highNib_append_lowNib, hl] at place
  rcases place hfixed with hgroup | rfl | rfl | rfl
  · obtain ⟨g, hg, rfl⟩ := List.mem_map.mp hgroup
    have hfirst : g ≠ .cpc := by
      rintro rfl
      exact absurd hg (by decide)
    exact .inl ⟨g, Option.some.inj (hl.symm.trans (firstMap_group_9 hfirst))⟩
  · exact .inr (.inl (Option.some.inj hl).symm)
  · exact .inr (.inr (.inl (Option.some.inj hl).symm))
  · exact .inr (.inr (.inr (Option.some.inj hl).symm))

theorem layout_of_tableSecond {op2 : Byte} {l : Layout} (hl : tableSecond op2.toNat = some l)
    (hfixed : hasFixedNibble l = true) : l = .IM_ER1 (immediateForm .cpc) := by
  have place := tableSecond_hasFixedNibble_append (highNib op2) (lowNib op2)
  rw [highNib_append_lowNib, hl] at place
  obtain rfl := place hfixed
  exact (Option.some.inj hl).symm

/-- The instructions that can be read with a non-zero fixed nibble. -/
theorem instr_of_decode_reserved {bs : List Byte} {i : Instr} {n : Nat} (h : decode bs = .reserved i n) :
    (∃ op d v, twoOperand i = some (op, .ER_IM d v)) ∨ (∃ d v, i = .ldx_ER_IM d v) ∨
      ∃ a, i = .pushx_ER a ∨ i = .popx_ER a := by
  obtain ⟨l, op, hl | hl, hfixed, b1, b2, b3, rfl⟩ := layout_of_decode_reserved h
  case inl =>
    rcases layout_of_firstMap hl hfixed with ⟨g, rfl⟩ | rfl | rfl | rfl
    · exact .inl ⟨g, _, _, twoOperand_immediateForm g _ _⟩
    · exact .inr (.inl ⟨_, _, rfl⟩)
    · exact .inr (.inr ⟨_, .inl rfl⟩)
    · exact .inr (.inr ⟨_, .inr rfl⟩)
  case inr =>
    rw [layout_of_tableSecond hl hfixed]
    exact .inl ⟨.cpc, _, _, rfl⟩

theorem executeHere_of_reserved {s : State} {i : Instr} {n : Nat} (h : decode (fetchBytes s) = .reserved i n) :
    executeHere s =
      match s.product.reservedBits with
      | .ignore => runInstruction i n s
      | .illegal => closeEntry (illegalInstruction s.pc s) := by
  unfold executeHere
  rw [h]
  cases s.product.reservedBits <;> rfl

/-- Settles O5: the operands of the two formats are read whatever their fixed nibble is, and both maps use these formats
for the instructions named. -/
theorem fixedNibbles : Obligations.FixedNibbles := by
  unfold Obligations.FixedNibbles
  refine ⟨fun op d v n hn => ?group, fun d v n hn => ?ldx, fun a n hn => ⟨?pushx, ?popx⟩,
    fun bs i n => instr_of_decode_reserved, fun s i n h => ?run⟩
  case group => exact ⟨_, twoOperand_immediateForm op d v, decode_immediateForm_reserved op d v hn⟩
  case ldx =>
    exact (decode_of_firstMap _ (by decide) rfl).trans (decodeOperands_IM_ER1_reserved 1 .ldx_ER_IM d v hn)
  case pushx => exact (decode_of_firstMap _ (by decide) rfl).trans (decodeOperands_ER_0_reserved 1 .pushx_ER a hn)
  case popx => exact (decode_of_firstMap _ (by decide) rfl).trans (decodeOperands_ER_0_reserved 1 .popx_ER a hn)
  case run => exact executeHere_of_reserved h

/-! ### Words of the manual, and the spellings that share their words -/

/-- Settles O2: each word is decoded as it stands. -/
theorem wordsOfTheManual : Obligations.WordsOfTheManual := by
  unfold Obligations.WordsOfTheManual
  decide

/-- Settles O6: a spelling and the instruction it spells have one shape and one encoding; every other instruction spells
itself. -/
theorem aliasesAgree : Obligations.AliasesAgree := by
  unfold Obligations.AliasesAgree
  intro i s
  unfold canonical
  split <;> exact ⟨rfl, rfl⟩

end Sys2Proof.Proofs

/-! ## Operands and the Register File (20_memory.md sections 3 and 4, 30_encoding.md section 3) -/

namespace Sys2Proof.Proofs

open Sys2Proof Sys2Proof.Machine Sys2Proof.Claims

/-! ### Reading a register (20_memory.md R78, R80) -/

theorem readRegister_of_readable (k : Nat) {a : Addr} {s : State} (hs : Undisturbed s) (h : Readable a s) :
    readRegister k a s = .ok (registerValue k a s) :=
  (readRegister_ok k a s _ hs).mpr ⟨h, rfl⟩

theorem writeRegister_of_writable {a : Addr} (v : Byte) {s : State} (hs : Undisturbed s) (h : Writable a s) :
    writeRegister a v s = .ok (storeRegister a v s) :=
  (writeRegister_ok a v s _ hs).mpr ⟨h, rfl⟩

/-- A register with no field of its own is a cell of the Register File where the product has it, and any byte where it
has not. -/
theorem registerValue_of_not_isCoreRegister (k : Nat) {a : Addr} (hcore : isCoreRegister a = false) (s : State) :
    registerValue k a s =
      if covers s.product.rfAvailable a.toNat then readCell rfBlank s.rf a.toNat
      else Config.freeByte s.tick (.operand k) := by
  obtain ⟨h1, h2, h3, h4, h5⟩ := ne_core_of_not_isCoreRegister hcore
  simp only [registerValue, if_neg h1, if_neg h2, if_neg h3, if_neg h4, if_neg h5,
    available_of_not_isCoreRegister hcore]

theorem not_isCoreRegister_of_lt {a : Addr} (hlt : a.toNat < 0xFFC) (hne : a ≠ 0xFCF) : isCoreRegister a = false := by
  simp only [isCoreRegister, Bool.or_eq_false_iff, decide_eq_false_iff_not]
  exact ⟨by omega, hne⟩

/-- Settles O9: the five registers of the core have fields, and every other address is a cell or a free value. -/
theorem registerReads : Obligations.RegisterReads := by
  unfold Obligations.RegisterReads
  refine fun k s => ⟨rfl, rfl, rfl, rfl, rfl, fun a hlt hne ha => ?cell, fun a hlt hne ha => ?free⟩
  case cell => rw [registerValue_of_not_isCoreRegister k (not_isCoreRegister_of_lt hlt hne), if_pos ha]
  case free =>
    rw [registerValue_of_not_isCoreRegister k (not_isCoreRegister_of_lt hlt hne), ha, if_neg Bool.false_ne_true]

/-! ### Where the operands are (30_encoding.md R124 to R132) -/

/-- A pointer that can be read makes the address that its value gives. -/
theorem placeAddress_viaWorking (k : Nat) (n : Nib) {s : State} (hs : Undisturbed s)
    (h : Readable (workingAddress n s) s) :
    placeAddress k (.viaWorking n) s = .ok (pageAddress (registerValue k (workingAddress n s) s) s) := by
  simp only [placeAddress, accessPlace, (accessRegister_ok k _ s s _ hs).mpr ⟨h, rfl, rfl⟩]
  rfl

theorem placeAddress_viaShort (k : Nat) (a : Byte) {s : State} (hs : Undisturbed s) (h : Readable (escaped8 a s) s) :
    placeAddress k (.viaShort a) s = .ok (pageAddress (registerValue k (escaped8 a s) s) s) := by
  simp only [placeAddress, accessPlace, (accessRegister_ok k _ s s _ hs).mpr ⟨h, rfl, rfl⟩]
  rfl

theorem placeAddress_indexed (k : Nat) (n : Nib) (x : Byte) {s : State} (hs : Undisturbed s)
    (h : Readable (workingAddress n s) s) :
    placeAddress k (.indexed n x) s = .ok (pageAddress (registerValue k (workingAddress n s) s + x) s) := by
  simp only [placeAddress, accessPlace, (accessRegister_ok k _ s s _ hs).mpr ⟨h, rfl, rfl⟩]
  rfl

theorem placeAddress_viaPair {k : Nat} {a : Byte} {w : Word} {s : State} (hs : Undisturbed s)
    (h : readPair k (escaped8 a s) s = .ok w) : placeAddress k (.viaPair a) s = .ok (linearAddress w) := by
  simp only [placeAddress, accessPlace, (accessPair_ok k _ s s w hs).mpr ⟨h, rfl⟩]
  rfl

theorem placeAddress_pairIndexed {k : Nat} {n : Nib} (x : Byte) {w : Word} {s : State} (hs : Undisturbed s)
    (h : readPair k (workingAddress n s) s = .ok w) :
    placeAddress k (.pairIndexed n x) s = .ok (linearAddress (w + x.signExtend 16)) := by
  simp only [placeAddress, accessPlace, (accessPair_ok k _ s s w hs).mpr ⟨h, rfl⟩]
  rfl

theorem linearAddress_eq_ofNat (w : Word) : linearAddress w = BitVec.ofNat 12 w.toNat := rfl

/-- Bits 11:0 of the 16-bit sum are the sum modulo 2^12. -/
theorem linearAddress_add_signExtend (w : Word) (x : Byte) :
    linearAddress (w + x.signExtend 16) = BitVec.ofInt 12 ((w.toNat : Int) + x.toInt) := by
  have sum := add_signExtend_toNat w x
  rw [linearAddress_eq_ofNat, BitVec.toNat_eq, BitVec.toNat_ofNat, BitVec.toNat_ofInt]
  omega

/-- Settles O8: each operand kind makes its address of the pointers it reads, and index sums are sums modulo the width. -/
theorem operandPlaces : Obligations.OperandPlaces := by
  unfold Obligations.OperandPlaces
  intro s k hs
  refine ⟨fun _ => rfl, fun _ => rfl, fun _ => rfl, fun _ => rfl, fun n h => placeAddress_viaWorking k n hs h,
    fun a h => placeAddress_viaShort k a hs h, fun n x h => placeAddress_indexed k n x hs h,
    fun a w h => placeAddress_viaPair hs h, fun n x w h => ?pairIndexed, fun x => ⟨?target, ?least, ?greatest⟩⟩
  case pairIndexed => rw [placeAddress_pairIndexed x hs h, linearAddress_add_signExtend]
  case target => exact add_signExtend_toNat s.pc x
  case least => exact BitVec.le_toInt x
  case greatest => exact Int.le_of_lt_add_one BitVec.toInt_lt

/-! ### Writing a register (20_memory.md R79) -/

theorem registerValue_storeRegister_available (k : Nat) {a : Addr} (v : Byte) {s : State}
    (hw : Memory.wf rfBlank s.rf = true) (hcore : isCoreRegister a = false) (ha : available a s = true) :
    registerValue k a (storeRegister a v s) = presented a v s := by
  have known : covers s.product.rfAvailable a.toNat = true := available_of_not_isCoreRegister hcore s ▸ ha
  rw [registerValue_of_not_isCoreRegister k hcore, storeRegister_product, known, if_pos rfl,
    storeRegister_of_available v hcore ha]
  exact readCell_writeCell_same rfBlank s.rf a.toNat (presented a v s) hw

/-- Registers of the core and general-purpose registers hold what is written to them. -/
theorem registerValue_storeRegister_same (k : Nat) {a : Addr} (v : Byte) {s : State}
    (hw : Memory.wf rfBlank s.rf = true) (h : 0xFFC ≤ a.toNat ∨ a = 0xFCF ∨ Plain a s) :
    registerValue k a (storeRegister a v s) = v := by
  cases hcore : isCoreRegister a with
  | true => exact registerValue_storeRegister_core k a v s ((isCoreRegister_iff a).mp hcore)
  | false =>
    rcases h with h | h | ⟨hlt, ha⟩
    case inr.inr => exact registerValue_storeRegister_general k a v s hw hlt ha
    all_goals
      simp only [isCoreRegister, Bool.or_eq_false_iff, decide_eq_false_iff_not] at hcore
      exact absurd h (by tauto)

theorem presented_of_isPlatform {a : Addr} (v : Byte) (s : State) (h : isPlatform a = true) :
    presented a v s = Config.platformByte s.tick a (readCell rfBlank s.rf a.toNat) v := by
  rw [presented, h, if_pos rfl]

/-- Settles O10: a write reaches its own register alone, and the canonical form of the Register File makes it the one
read back. -/
theorem registerWrites : Obligations.RegisterWrites := by
  unfold Obligations.RegisterWrites
  intro a v s hs
  refine ⟨sameOutside_storeRegister a v s, sameRegistersBut_storeRegister a v s,
    fun k h => registerValue_storeRegister_same k v hs.rf_wf h, storeRegister_of_unavailable v,
    fun hge hlt hne ha k => ?platform⟩
  have hcore := not_isCoreRegister_of_lt hlt hne
  have platform : isPlatform a = true := by
    simp only [isPlatform, decide_eq_true hge, hcore, Bool.not_false, Bool.and_self]
  rw [registerValue_storeRegister_available k v hs.rf_wf hcore ha, presented_of_isPlatform v s platform]

/-! ### Access rights (20_memory.md R80) -/

theorem accessRight_of_not_isPlatform {a : Addr} (h : isPlatform a = false) (s : State) :
    accessRight a s = .readWrite := by
  rw [accessRight, h, if_neg Bool.false_ne_true]

theorem not_isPlatform_of_lt {a : Addr} (h : a.toNat < 0xF00) : isPlatform a = false := by
  simp only [isPlatform, decide_eq_false (Nat.not_le.mpr h), Bool.false_and]

theorem not_isPlatform_of_isCoreRegister {a : Addr} (h : isCoreRegister a = true) : isPlatform a = false := by
  simp only [isPlatform, h, Bool.not_true, Bool.and_false]

theorem isCoreRegister_of_le {a : Addr} (h : 0xFFC ≤ a.toNat) : isCoreRegister a = true := by
  simp only [isCoreRegister, decide_eq_true h, Bool.true_or]

theorem accessRight_readWrite {a : Addr} (s : State) (h : 0xFFC ≤ a.toNat ∨ a.toNat < 0xF00) :
    accessRight a s = .readWrite := by
  refine accessRight_of_not_isPlatform ?_ s
  rcases h with h | h
  · exact not_isPlatform_of_isCoreRegister (isCoreRegister_of_le h)
  · exact not_isPlatform_of_lt h

/-- The destination's value is read before anything is written, so that a Write-Only one stops both shapes. -/
theorem combine_of_writeOnly {f : Byte → Byte → AluResult} {dst : Place} {src : Source} {s : State} {da : Addr} {v : Byte}
    (hs : Undisturbed s) (hda : placeAddress 0 dst s = .ok da) (hv : sourceValue src s = .ok v)
    (h : accessRight da s = .writeOnly) : combine f dst src s = refuse (.readOfWriteOnly da) := by
  unfold combine
  rw [(accessPlace_ok _ _ _ _ _ hs).mpr ⟨hda, rfl⟩]
  simp only [bind, Except.bind]
  rw [(accessSource_ok _ _ _ _ hs).mpr ⟨hv, rfl⟩]
  simp only [accessRegister_undisturbed _ _ _ hs, h, if_true, refuse]

theorem test_of_writeOnly {f : Byte → Byte → AluResult} {dst : Place} {src : Source} {s : State} {da : Addr} {v : Byte}
    (hs : Undisturbed s) (hda : placeAddress 0 dst s = .ok da) (hv : sourceValue src s = .ok v)
    (h : accessRight da s = .writeOnly) : test f dst src s = refuse (.readOfWriteOnly da) := by
  unfold test
  rw [(accessPlace_ok _ _ _ _ _ hs).mpr ⟨hda, rfl⟩]
  simp only [bind, Except.bind]
  rw [(accessSource_ok _ _ _ _ hs).mpr ⟨hv, rfl⟩]
  simp only [accessRegister_undisturbed _ _ _ hs, h, if_true, refuse]

theorem load_of_readOnly {dst : Place} {src : Source} {s : State} {da : Addr} {v : Byte} (hs : Undisturbed s)
    (hda : placeAddress 0 dst s = .ok da) (hv : sourceValue src s = .ok v) (h : accessRight da s = .readOnly) :
    load dst src s = refuse (.writeOfReadOnly da) := by
  unfold load
  rw [(accessPlace_ok _ _ _ _ _ hs).mpr ⟨hda, rfl⟩]
  simp only [bind, Except.bind]
  rw [(accessSource_ok _ _ _ _ hs).mpr ⟨hv, rfl⟩]
  simp only [writeRegister_undisturbed _ _ _ hs, h, if_true]

/-- Settles O11: the right is asked at each access, and it restricts the peripheral registers alone. -/
theorem accessRights : Obligations.AccessRights := by
  unfold Obligations.AccessRights
  refine ⟨fun k a v s hs =>
    ⟨readRegister_of_readable k hs, writeRegister_of_writable v hs, fun h => ?read, fun h => ?write,
    accessRight_readWrite s⟩, fun i f op s da v hi hs hda hv h => ?twoOperand,
    fun i dst src s da v hi hs hda hv h => ?load⟩
  case read => rw [readRegister_undisturbed k a s hs, if_pos h]
  case write => rw [writeRegister_undisturbed a v s hs, if_pos h]
  case twoOperand =>
    rw [exec_twoOperand hi]
    split
    · rw [combine_of_writeOnly hs hda hv h, finish_refuse]
    · rw [test_of_writeOnly hs hda hv h, finish_refuse]
  case load => rw [exec_loadOperands hi, load_of_readOnly hs hda hv h, finish_refuse]

/-! ### Register pairs (20_memory.md R75 to R77) -/

/-- The mask FFEh clears bit 0 and nothing else. -/
theorem and_FFE_eq_shifts (a : Addr) : a &&& (0xFFE : Addr) = (a >>> 1) <<< 1 := by
  have mask : ∀ i < 12, (0xFFE : Addr).getLsbD i = decide (1 ≤ i) := by decide
  refine BitVec.eq_of_getLsbD_eq fun i hi => ?_
  simp only [BitVec.getLsbD_and, mask i hi, BitVec.getLsbD_shiftLeft, BitVec.getLsbD_ushiftRight, decide_eq_true hi,
    Bool.true_and]
  rcases i with _ | i
  · simp
  · simp [Nat.add_comm 1 i]

theorem and_FFE_toNat (a : Addr) : (a &&& (0xFFE : Addr)).toNat = a.toNat / 2 * 2 := by
  rw [and_FFE_eq_shifts, BitVec.toNat_shiftLeft, BitVec.toNat_ushiftRight, Nat.shiftRight_eq_div_pow, Nat.shiftLeft_eq]
  omega

theorem pairAddress_toNat (p : OddPair) (a : Addr) :
    (pairAddress p a).toNat = if p = .forceEven ∧ a.toNat % 2 = 1 then a.toNat - 1 else a.toNat := by
  cases p with
  | asIs => rfl
  | forceEven =>
    simp only [pairAddress, and_FFE_toNat, true_and]
    split <;> omega

theorem getLsbD_zero_eq_decide (a : Addr) : a.getLsbD 0 = decide (a.toNat % 2 = 1) := Nat.testBit_zero a.toNat

theorem pairAddress_of_even (p : OddPair) {a : Addr} (h : a.getLsbD 0 = false) : pairAddress p a = a := by
  rw [getLsbD_zero_eq_decide, decide_eq_false_iff_not] at h
  rw [BitVec.toNat_eq, pairAddress_toNat, if_neg fun e => h e.2]

theorem pairAddress_forceEven_of_odd {a : Addr} (h : a.getLsbD 0 = true) :
    pairAddress .forceEven a = pairAddress .forceEven (a - 1) := by
  rw [getLsbD_zero_eq_decide, decide_eq_true_eq] at h
  have below : (a - 1).toNat = a.toNat - 1 := by bv_omega
  rw [BitVec.toNat_eq, pairAddress_toNat, pairAddress_toNat, below, if_pos ⟨rfl, h⟩, if_neg (by omega)]

theorem writable_of_plain {a : Addr} {s : State} (h : Plain a s) : Writable a s := by
  obtain ⟨hlt, -⟩ := h
  rw [Writable, accessRight_readWrite s (.inr hlt)]
  decide

theorem readable_of_plain {a : Addr} {s : State} (h : Plain a s) : Readable a s := by
  obtain ⟨hlt, -⟩ := h
  rw [Readable, accessRight_readWrite s (.inr hlt)]
  decide

theorem readable_of_product {s t : State} (h : t.product = s.product) (a : Addr) : Readable a t ↔ Readable a s := by
  rw [Readable, Readable, accessRight_of_product h]

theorem writable_of_product {s t : State} (h : t.product = s.product) (a : Addr) : Writable a t ↔ Writable a s := by
  rw [Writable, Writable, accessRight_of_product h]

theorem plain_of_product {s t : State} (h : t.product = s.product) (a : Addr) : Plain a t ↔ Plain a s := by
  rw [Plain, Plain, available_of_product h]

theorem ne_add_one (a : Addr) : a ≠ a + 1 := by bv_omega

theorem rf_wf_storeRegister (a : Addr) (v : Byte) {s : State} (hs : s.Inv) :
    Memory.wf rfBlank (storeRegister a v s).rf = true :=
  ((keeps_storeRegister a v s).2 (sound_of_inv hs)).rf_wf

theorem inv_storeRegister (a : Addr) (v : Byte) {s : State} (hs : s.Inv) : (storeRegister a v s).Inv :=
  inv_of_sound ((keeps_storeRegister a v s).2 (sound_of_inv hs)) ((storeRegister_midway a v s).trans hs.midway_nil)

/-- A pair of general-purpose registers holds the word written to it. -/
theorem writePair_readPair (k : Nat) {a : Addr} (w : Word) {s : State} (hs : s.Inv) (heven : a.getLsbD 0 = false)
    (high : Plain a s) (low : Plain (a + 1) s) :
    ∃ t, writePair a w s = .ok t ∧ readPair k a t = .ok w ∧ SameOutside s t ∧
      SameRegistersBut (fun b => b = a ∨ b = a + 1) s t := by
  have even := pairAddress_of_even s.product.oddPair heven
  let s1 := storeRegister a (w.extractLsb' 8 8) s
  let t := storeRegister (a + 1) (w.extractLsb' 0 8) s1
  have outside : SameOutside s t := sameOutside_trans (sameOutside_storeRegister _ _ _) (sameOutside_storeRegister _ _ _)
  have hproduct : t.product = s.product := outside.product
  have plain1 : Plain (a + 1) s1 := (plain_of_product (storeRegister_product _ _ _) _).mpr low
  have readHigh : registerValue k a t = w.extractLsb' 8 8 :=
    (registerValue_storeRegister_other k _ _ _ s1 (ne_add_one a)).trans
      (registerValue_storeRegister_same k _ hs.rf_wf (.inr (.inr high)))
  have readLow : registerValue (k + 1) (a + 1) t = w.extractLsb' 0 8 :=
    registerValue_storeRegister_same (k + 1) _ (rf_wf_storeRegister a _ hs) (.inr (.inr plain1))
  refine ⟨t, ?written, ?read, outside, ?registers⟩
  case written =>
    refine (writePair_ok a w s t hs.midway_nil).mpr ?_
    rw [even]
    exact ⟨writable_of_plain high, writable_of_plain low, rfl⟩
  case read =>
    refine (readPair_ok k a t w (outside.midway.trans hs.midway_nil)).mpr ?_
    rw [hproduct, even, readHigh, readLow, word_high_append_low]
    exact ⟨(readable_of_product hproduct a).mpr (readable_of_plain high),
      (readable_of_product hproduct _).mpr (readable_of_plain low), rfl⟩
  case registers =>
    exact sameRegistersBut_trans (sameRegistersBut_storeRegister a _ s) (sameRegistersBut_storeRegister (a + 1) _ _)

/-! ### A pair that an outside agent sees half-written (20_memory.md R91) -/

/-- Moves that are still to come are no part of what a register write does. -/
theorem storeRegister_withMidway (a : Addr) (v : Byte) (ms : List (List Move)) (s : State) :
    storeRegister a v (withMidway ms s) = withMidway ms (storeRegister a v s) := by
  cases ha : available a s with
  | false => rw [storeRegister_of_unavailable v ha, storeRegister_of_unavailable v (s := withMidway ms s) ha]
  | true =>
    cases hcore : isCoreRegister a with
    | false =>
      rw [storeRegister_of_available v hcore ha, storeRegister_of_available v (s := withMidway ms s) hcore ha]
      rfl
    | true => rcases (isCoreRegister_iff a).mp hcore with rfl | rfl | rfl | rfl | rfl <;> rfl

theorem byteAt_withMidway (l : Location) (ms : List (List Move)) (s : State) :
    byteAt l (withMidway ms s) = byteAt l s := by
  cases l <;> rfl

/-- A register write before which no agent moves uses up its empty place in the list. -/
theorem writeRegister_of_midway_nil_cons {a : Addr} (v : Byte) {s : State} {rest : List (List Move)}
    (hm : s.midway = [] :: rest) (h : Writable a s) :
    writeRegister a v s = .ok (withMidway rest (storeRegister a v s)) := by
  have before : gap s = .ok (withMidway rest s) := by
    rw [gap, hm]
    rfl
  unfold writeRegister
  rw [before, ← storeRegister_withMidway]
  exact if_neg h

/-- The state after the DMA controller was told the byte at `l`. -/
def toldDma (l : Location) (s : State) : State :=
  withTick (s.tick + 1) (withOutputs (.dmaByte l (byteAt l s) :: s.outputs) s)

/-- A register write before which the DMA controller reads a byte. -/
theorem writeRegister_of_midway_dmaRead {a : Addr} (v : Byte) {s : State} {l : Location} (hm : s.midway = [[.dmaRead l]])
    (hgrant : dmaGranted s = true) (h : Writable a s) :
    writeRegister a v s = .ok (storeRegister a v (toldDma l (withMidway [] s))) := by
  have before : gap s = .ok (toldDma l (withMidway [] s)) := by
    rw [gap, hm]
    simp only [makeMoves, makeMove, bind, Except.bind]
    exact congrArg Except.ok (if_pos hgrant)
  unfold writeRegister
  rw [before]
  exact if_neg h

theorem outputs_toldDma (l : Location) (s : State) : (toldDma l s).outputs = .dmaByte l (byteAt l s) :: s.outputs := rfl

/-- Two register writes with a DMA read between them: the controller sees the first one made and the second one not. -/
theorem writeRegister_dmaRead_writeRegister {a b : Addr} (v w : Byte) {s : State} {l : Location}
    (hm : s.midway = [[], [.dmaRead l]]) (hgrant : dmaGranted s = true) (ha : Writable a s) (hb : Writable b s) :
    ∃ t, (do let s1 ← writeRegister a v s; writeRegister b w s1) = .ok t ∧
      t.outputs = .dmaByte l (byteAt l (storeRegister a v s)) :: s.outputs := by
  let s1 := withMidway [[.dmaRead l]] (storeRegister a v s)
  have product1 : s1.product = s.product := storeRegister_product a v s
  have grant1 : dmaGranted s1 = true := by
    rw [dmaGranted, product1, show s1.atm = s.atm from storeRegister_atm a v s]
    exact hgrant
  refine ⟨storeRegister b w (toldDma l (withMidway [] s1)), ?_, ?_⟩
  · rw [writeRegister_of_midway_nil_cons v hm ha]
    exact writeRegister_of_midway_dmaRead w rfl grant1 ((writable_of_product product1 b).mpr hb)
  · rw [storeRegister_outputs, outputs_toldDma, byteAt_withMidway]
    exact congrArg₂ List.cons (congrArg _ (byteAt_withMidway l _ _)) (storeRegister_outputs a v s)

theorem writePair_seen_by_dma {a : Addr} (w : Word) {l : Location} {s : State} (hagent : s.product.dmaAgent = true)
    (hatm : s.atm = 0) (heven : a.getLsbD 0 = false) (high : Writable a s) (low : Writable (a + 1) s)
    (hm : s.midway = [[], [.dmaRead l]]) :
    ∃ t, writePair a w s = .ok t ∧
      (t.outputs = .dmaByte l (byteAt l (storeRegister a (w.extractLsb' 8 8) s)) :: s.outputs ∨
        t.outputs = .dmaByte l (byteAt l (storeRegister (a + 1) (w.extractLsb' 0 8) s)) :: s.outputs) := by
  have grant : dmaGranted s = true := by
    rw [dmaGranted, hagent, hatm]
    rfl
  unfold writePair writeTwo
  rw [pairAddress_of_even _ heven]
  split
  · obtain ⟨t, ht, seen⟩ := writeRegister_dmaRead_writeRegister (w.extractLsb' 0 8) (w.extractLsb' 8 8) hm grant low high
    exact ⟨t, ht, .inr seen⟩
  · obtain ⟨t, ht, seen⟩ := writeRegister_dmaRead_writeRegister (w.extractLsb' 8 8) (w.extractLsb' 0 8) hm grant high low
    exact ⟨t, ht, .inl seen⟩

/-- Settles O12: an even pair address is its own, an odd one is what `ODD_PAIR` makes of it, and two byte writes are two
places an outside agent can look between. -/
theorem registerPairs : Obligations.RegisterPairs := by
  unfold Obligations.RegisterPairs
  refine ⟨fun k a s hs heven high low => ?bigEndian,
    fun k a w s hs heven high low => writePair_readPair k w hs heven high low,
    fun k a s hodd => ⟨fun hp => ?forceEven, fun hp hs high low => ?asIs⟩, pairAddress_toNat,
    fun a w l s hagent hatm heven high low hm => writePair_seen_by_dma w hagent hatm heven high low hm⟩
  case bigEndian =>
    refine ⟨_, (readPair_ok k a s _ hs).mpr ⟨?_, ?_, rfl⟩, ?_⟩
    · rwa [pairAddress_of_even _ heven]
    · rwa [pairAddress_of_even _ heven]
    · rw [pairAddress_of_even _ heven]
      exact toNat_append_eq_add _ _
  case forceEven =>
    unfold readPair accessPair
    rw [hp, pairAddress_forceEven_of_odd hodd]
  case asIs =>
    refine (readPair_ok k a s _ hs).mpr ?_
    rw [hp]
    exact ⟨high, low, rfl⟩

end Sys2Proof.Proofs

/-! ## Flags, memories and what the shapes leave unchanged -/

namespace Sys2Proof.Proofs

open Sys2Proof Sys2Proof.Machine Sys2Proof.Claims

/-! ### Flags (10_state.md section 4.1) -/

/-- Settles O13: an update is a write of FLAGS in which the flags it names take their values. -/
theorem flagUpdates : Obligations.FlagUpdates := by
  unfold Obligations.FlagUpdates
  exact fun u s => ⟨fun f => flag_updateFlags f u s, rfl, rfl, sameOutside_updateFlags u s,
    sameRegistersBut_updateFlags u s⟩

theorem toInt_byte (b : Byte) : b.toInt = if b.toNat < 128 then (b.toNat : Int) else (b.toNat : Int) - 256 := by
  rw [BitVec.toInt_eq_toNat_cond]
  split <;> split <;> omega

theorem bitNat_eq_toNat (c : Bool) : bitNat c = c.toNat := by
  cases c <;> rfl

/-- The sum modulo 256 and the carry out make up the sum. -/
theorem addWith_value_add_carry (c : Bool) (d s : Byte) :
    (addWith c d s).value.toNat + (if (addWith c d s).flags.c = some true then 256 else 0) =
      d.toNat + s.toNat + c.toNat := by
  have hc := c.toNat_le
  rw [addWith_flags, addWith_value, bitNat_eq_toNat, BitVec.toNat_ofNat]
  simp only [addFlags, Option.some.injEq, decide_eq_true_eq]
  split <;> omega

/-- The difference modulo 256 and the borrow make up the difference. -/
theorem subWith_value_add_borrow (c : Bool) (d s : Byte) :
    (subWith c d s).value.toNat + s.toNat + c.toNat =
      d.toNat + (if (subWith c d s).flags.c = some true then 256 else 0) := by
  have hc := c.toNat_le
  rw [subWith_flags, subWith_value_toNat, bitNat_eq_toNat]
  simp only [subFlags, difference, Option.some.injEq, decide_eq_true_eq]
  split <;> omega

theorem addWith_overflow (c : Bool) (d s : Byte) :
    (addWith c d s).flags.v =
      some (decide (d.toInt + s.toInt + c.toNat < -128 ∨ 127 < d.toInt + s.toInt + c.toNat)) := by
  have hc := c.toNat_le
  rw [addWith_flags, bitNat_eq_toNat]
  simp only [addFlags, Option.some.injEq, decide_eq_decide, toInt_byte]
  split <;> split <;> omega

theorem subWith_overflow (c : Bool) (d s : Byte) :
    (subWith c d s).flags.v =
      some (decide (d.toInt - s.toInt - c.toNat < -128 ∨ 127 < d.toInt - s.toInt - c.toNat)) := by
  have hc := c.toNat_le
  rw [subWith_flags, bitNat_eq_toNat]
  refine congrArg some (decide_eq_decide.mpr ?_)
  rw [toInt_byte, toInt_byte, difference]
  split <;> split <;> omega

/-- Settles O23: the model's C and V are those of the exact sum and difference, by the signs of operands and result. -/
theorem signedOverflow : Obligations.SignedOverflow := by
  unfold Obligations.SignedOverflow
  exact fun c d s => ⟨addWith_overflow c d s, subWith_overflow c d s, addWith_value_add_carry c d s,
    subWith_value_add_borrow c d s⟩

/-! ### Program Memory (20_memory.md R82, R83) -/

theorem writeProgram_of_unavailable {a : Word} {s : State} (v : Byte)
    (ha : covers s.product.pmAvailable a.toNat = false) : writeProgram a v s = s := by
  simp [writeProgram, ha]

theorem writeProgram_of_unwritable {a : Word} {s : State} (v : Byte)
    (ha : covers s.product.pmWritable a.toNat = false) : writeProgram a v s = s := by
  simp [writeProgram, ha]

theorem writeProgram_pm {a : Word} {s : State} (v : Byte) (ha : covers s.product.pmAvailable a.toNat = true)
    (hw : covers s.product.pmWritable a.toNat = true) :
    (writeProgram a v s).pm = writeCell memBlank s.pm a.toNat v := by
  simp [writeProgram, ha, hw]

@[simp] theorem writeProgram_product (a : Word) (v : Byte) (s : State) : (writeProgram a v s).product = s.product := by
  obtain ⟨pm, stale, h⟩ := writeProgram_fields a v s
  rw [h]

@[simp] theorem writeProgram_pc (a : Word) (v : Byte) (s : State) : (writeProgram a v s).pc = s.pc := by
  obtain ⟨pm, stale, h⟩ := writeProgram_fields a v s
  rw [h]

@[simp] theorem writeProgram_midway (a : Word) (v : Byte) (s : State) : (writeProgram a v s).midway = s.midway := by
  obtain ⟨pm, stale, h⟩ := writeProgram_fields a v s
  rw [h]

@[simp] theorem registerValue_writeProgram (k : Nat) (r : Addr) (a : Word) (v : Byte) (s : State) :
    registerValue k r (writeProgram a v s) = registerValue k r s := by
  obtain ⟨pm, stale, h⟩ := writeProgram_fields a v s
  rw [h]
  rfl

@[simp] theorem dataByte_writeProgram (a b : Word) (v : Byte) (s : State) :
    dataByte b (writeProgram a v s) = dataByte b s := by
  obtain ⟨pm, stale, h⟩ := writeProgram_fields a v s
  rw [h]
  rfl

theorem programByte_writeProgram_same {a : Word} {s : State} (v : Byte) (hs : Memory.wf memBlank s.pm = true)
    (ha : covers s.product.pmAvailable a.toNat = true) (hw : covers s.product.pmWritable a.toNat = true) :
    programByte a (writeProgram a v s) = v := by
  rw [programByte, writeProgram_product, writeProgram_pm v ha hw]
  exact memoryByte_writeCell_same v hs ha

theorem programByte_writeProgram_other {a b : Word} (v : Byte) (s : State) (hb : b ≠ a) :
    programByte b (writeProgram a v s) = programByte b s := by
  cases ha : covers s.product.pmAvailable a.toNat with
  | false => rw [writeProgram_of_unavailable v ha]
  | true =>
    cases hw : covers s.product.pmWritable a.toNat with
    | false => rw [writeProgram_of_unwritable v hw]
    | true =>
      rw [programByte, writeProgram_product, writeProgram_pm v ha hw]
      exact memoryByte_writeCell_other s.product.pmAvailable s.pm v hb

/-- Settles O14: as for Data Memory, with a second condition for the store to be taken. -/
theorem programMemoryAccess : Obligations.ProgramMemoryAccess := by
  unfold Obligations.ProgramMemoryAccess
  intro a v s hs
  refine ⟨fun ha => ⟨memoryByte_of_unavailable s.pm ha, writeProgram_of_unavailable v ha⟩, writeProgram_of_unwritable v,
    fun ha hw => programByte_writeProgram_same v hs.pm_wf ha hw, fun b hb => programByte_writeProgram_other v s hb,
    fun b => dataByte_writeProgram a b v s, fun r k _ => registerValue_writeProgram k r a v s, writeProgram_pc a v s⟩

/-! ### Loads (44_load.md sections 1 and 3) -/

/-- Settles O33: every form is the one load, and a load is one register write. -/
theorem loadResult : Obligations.LoadResult := by
  unfold Obligations.LoadResult
  intro i dst src s da v hi hs hda hv hwrite
  refine ⟨?next, sameOutside_storeRegister da v s, sameRegistersBut_storeRegister da v s⟩
  rw [exec_loadOperands hi, (load_ok dst src s _ hs).mpr ⟨da, v, hda, hv, hwrite, rfl⟩, finish_ok]

/-! ### Transfers between a register and a memory (42_block_transfer.md section 2) -/

theorem fetchFrom_apply (program : Bool) (a : Word) (s : State) :
    fetchFrom program a s = if program then programByte a s else dataByte a s := by
  cases program <;> rfl

theorem storeTo_apply (program : Bool) (a : Word) (v : Byte) (s : State) :
    storeTo program a v s = if program then writeProgram a v s else writeData a v s := by
  cases program <;> rfl

/-- Settles O39: all three forms are the one load from a memory, which ends in one register write. -/
theorem memoryLoadResult : Obligations.MemoryLoadResult := by
  unfold Obligations.MemoryLoadResult
  intro i program p rr s da a hi hs hda ha hwrite t
  refine ⟨?next, sameOutside_storeRegister da _ s, sameRegistersBut_storeRegister da _ s⟩
  rw [exec_memoryLoad hi, (loadFromMemory_ok (fetchFrom program) p rr s _ hs).mpr ⟨da, a, hda, ha, hwrite, rfl⟩,
    finish_ok, fetchFrom_apply]

/-- The value of a working register as a source. -/
theorem sourceValue_working {r : Nib} {s : State} (hs : Undisturbed s) (h : Readable (workingAddress r s) s) :
    sourceValue (.place (.working r)) s = .ok (registerValue 6 (workingAddress r s) s) :=
  (sourceValue_place_ok (.working r) s _ hs).mpr ⟨_, rfl, h, rfl⟩

/-- Settles O40: both forms are the one store, which changes its own byte of its own memory. -/
theorem memoryStoreResult : Obligations.MemoryStoreResult := by
  unfold Obligations.MemoryStoreResult
  intro i program rr r s a hi hs ha hread v
  refine ⟨_, ?next, rfl, ?pc, ?registers, ?program, ?data⟩
  case next =>
    rw [exec_memoryStore hi, (storeToMemory_ok (storeTo program) rr (.working r) s _ hs).mpr
      ⟨a, v, ha, sourceValue_working hs hread, rfl⟩, finish_ok, storeTo_apply]
  case pc => cases program <;> simp
  case registers => cases program <;> simp [SameRegistersBut]
  case program =>
    intro b hb
    cases program with
    | false => exact programByte_writeData a b v s
    | true => exact programByte_writeProgram_other v s (hb.resolve_right Bool.true_eq_false.mp)
  case data =>
    intro b hb
    cases program with
    | true => exact dataByte_writeProgram a b v s
    | false => exact dataByte_writeData_other v s (hb.resolve_right Bool.false_eq_true.mp)

theorem workingPair_toNat (hi lo : Byte) : (hi ++ lo : Word) = BitVec.ofNat 16 (hi.toNat * 256 + lo.toNat) := by
  have whole : (hi ++ lo : Word).toNat = hi.toNat * 256 + lo.toNat := toNat_append_eq_add hi lo
  rw [← whole, BitVec.ofNat_toNat, BitVec.setWidth_eq]

theorem workingPair_add_one (hi lo : Byte) :
    (hi ++ lo : Word) + 1 = BitVec.ofNat 16 ((hi.toNat * 256 + lo.toNat + 1) % 65536) := by
  rw [workingPair_toNat]
  refine (BitVec.ofNat_add_ofNat _ 1).trans (BitVec.eq_of_toNat_eq ?_)
  simp only [BitVec.toNat_ofNat]
  omega

/-- Both increments after a transfer, on what the pointer register and the pair hold by then. -/
theorem incrementPointers_of_access {ra rra : Addr} {s1 : State} (hs : Undisturbed s1) (readPointer : Readable ra s1)
    (readHigh : Readable (pairAddress s1.product.oddPair rra) s1)
    (readLow : Readable (pairAddress s1.product.oddPair rra + 1) s1) (writePointer : Writable ra s1)
    (writeHigh : Writable (pairAddress s1.product.oddPair rra) s1)
    (writeLow : Writable (pairAddress s1.product.oddPair rra + 1) s1) :
    let pa := pairAddress s1.product.oddPair rra
    let s2 := storeRegister ra (registerValue 8 ra s1 + 1) s1
    let w := ((registerValue 9 pa s2).toNat * 256 + (registerValue 10 (pa + 1) s2).toNat + 1) % 65536
    incrementPointers ra rra s1 =
      .ok (storeRegister (pa + 1) (BitVec.ofNat 8 w) (storeRegister pa (BitVec.ofNat 8 (w / 256)) s2)) := by
  intro pa s2 w
  have product2 : s2.product = s1.product := storeRegister_product _ _ _
  have quiet2 : Undisturbed s2 := (storeRegister_midway _ _ _).trans hs
  have place : pairAddress s2.product.oddPair rra = pa := by rw [product2]
  have pair : readPair 9 rra s2 = .ok (registerValue 9 pa s2 ++ registerValue 10 (pa + 1) s2) := by
    refine (readPair_ok 9 rra s2 _ quiet2).mpr ?_
    rw [place]
    exact ⟨(readable_of_product product2 _).mpr readHigh, (readable_of_product product2 _).mpr readLow, rfl⟩
  refine (incrementPointers_ok ra rra s1 _ hs).mpr ⟨readPointer, writePointer, _, pair, ?_⟩
  rw [workingPair_add_one, writePair_ofNat w quiet2, place]
  · rw [place]
    exact (writable_of_product product2 _).mpr writeHigh
  · rw [place]
    exact (writable_of_product product2 _).mpr writeLow

/-- A pointer that answered an address could be read. -/
theorem readable_of_placeAddress_viaWorking {k : Nat} {r : Nib} {s : State} {a : Addr} (hs : Undisturbed s)
    (h : placeAddress k (.viaWorking r) s = .ok a) : Readable (workingAddress r s) s := by
  intro hright
  simp only [placeAddress, accessPlace, accessRegister_undisturbed _ _ _ hs, hright, if_true] at h
  exact nomatch h

theorem readable_of_readPair {k : Nat} {a : Addr} {s : State} {w : Word} (hs : Undisturbed s)
    (h : readPair k a s = .ok w) :
    Readable (pairAddress s.product.oddPair a) s ∧ Readable (pairAddress s.product.oddPair a + 1) s := by
  obtain ⟨high, low, -⟩ := (readPair_ok k a s w hs).mp h
  exact ⟨high, low⟩

theorem loadAndIncrement_ok (fetch : Word → State → Byte) (r rr : Nib) (s t : State) :
    loadAndIncrement fetch r rr s = .ok t ↔ ∃ s1, loadFromMemory fetch (.viaWorking r) rr s = .ok s1 ∧
      incrementPointers (workingAddress r s) (workingAddress rr s) s1 = .ok t :=
  bind_ok _ _ t

theorem storeAndIncrement_ok (store : Word → Byte → State → State) (rr r : Nib) (s t : State) :
    storeAndIncrement store rr r s = .ok t ↔ ∃ s1, storeToMemory store rr (.viaWorking r) s = .ok s1 ∧
      incrementPointers (workingAddress r s) (workingAddress rr s) s1 = .ok t :=
  bind_ok _ _ t

@[simp] theorem writeData_product (a : Word) (v : Byte) (s : State) : (writeData a v s).product = s.product := by
  obtain ⟨dm, h⟩ := writeData_fields a v s
  rw [h]

@[simp] theorem writeData_midway (a : Word) (v : Byte) (s : State) : (writeData a v s).midway = s.midway := by
  obtain ⟨dm, h⟩ := writeData_fields a v s
  rw [h]

/-- The increments after a transfer that changed neither the product nor the list of moves. -/
theorem incrementPointers_after_transfer {r rr : Nib} {s s1 : State} (hs : Undisturbed s)
    (product1 : s1.product = s.product) (quiet1 : s1.midway = s.midway) (readPointer : Readable (workingAddress r s) s)
    (readHigh : Readable (pairAddress s.product.oddPair (workingAddress rr s)) s)
    (readLow : Readable (pairAddress s.product.oddPair (workingAddress rr s) + 1) s)
    (writePointer : Writable (workingAddress r s) s)
    (writeHigh : Writable (pairAddress s.product.oddPair (workingAddress rr s)) s)
    (writeLow : Writable (pairAddress s.product.oddPair (workingAddress rr s) + 1) s) :
    let ra := workingAddress r s
    let pa := pairAddress s.product.oddPair (workingAddress rr s)
    let s2 := storeRegister ra (registerValue 8 ra s1 + 1) s1
    let w := ((registerValue 9 pa s2).toNat * 256 + (registerValue 10 (pa + 1) s2).toNat + 1) % 65536
    incrementPointers ra (workingAddress rr s) s1 =
      .ok (storeRegister (pa + 1) (BitVec.ofNat 8 w) (storeRegister pa (BitVec.ofNat 8 (w / 256)) s2)) := by
  have read := readable_of_product product1
  have write := writable_of_product product1
  rw [← product1] at readHigh readLow writeHigh writeLow ⊢
  exact incrementPointers_of_access (quiet1.trans hs) ((read _).mpr readPointer) ((read _).mpr readHigh)
    ((read _).mpr readLow) ((write _).mpr writePointer) ((write _).mpr writeHigh) ((write _).mpr writeLow)

/-- Settles O41: the transfer leaves the rights of every register as they were, so that both increments can be made on
what the transfer left. -/
theorem blockTransferResult : Obligations.BlockTransferResult := by
  unfold Obligations.BlockTransferResult
  constructor
  case left =>
    intro i program r rr s a da hi hs hda ha hwrite ra pa writePointer writeHigh writeLow s1 s2 w
    obtain ⟨readHigh, readLow⟩ := readable_of_readPair hs ha
    have transfer : loadFromMemory (fetchFrom program) (.viaWorking r) rr s = .ok s1 :=
      (loadFromMemory_ok _ _ rr s s1 hs).mpr ⟨da, a, hda, ha, hwrite, by rw [fetchFrom_apply]⟩
    have increments := incrementPointers_after_transfer hs (storeRegister_product _ _ _ : s1.product = s.product)
      (storeRegister_midway _ _ _) (readable_of_placeAddress_viaWorking hs hda) readHigh readLow writePointer writeHigh
      writeLow
    rw [exec_blockLoad hi, (loadAndIncrement_ok _ r rr s _).mpr ⟨s1, transfer, increments⟩, finish_ok]
  case right =>
    intro i program rr r s a v hi hs ha hv ra pa writePointer writeHigh writeLow s1 s2 w
    obtain ⟨readHigh, readLow⟩ := readable_of_readPair hs ha
    obtain ⟨sa, hsa, -⟩ := (sourceValue_place_ok (.viaWorking r) s v hs).mp hv
    have transfer : storeToMemory (storeTo program) rr (.viaWorking r) s = .ok s1 :=
      (storeToMemory_ok _ rr _ s s1 hs).mpr ⟨a, v, ha, hv, by rw [storeTo_apply]⟩
    have product1 : s1.product = s.product := by simp only [s1]; split <;> simp
    have quiet1 : s1.midway = s.midway := by simp only [s1]; split <;> simp
    have increments := incrementPointers_after_transfer hs product1 quiet1 (readable_of_placeAddress_viaWorking hs hsa)
      readHigh readLow writePointer writeHigh writeLow
    rw [exec_blockStore hi, (storeAndIncrement_ok _ rr r s _).mpr ⟨s1, transfer, increments⟩, finish_ok]

/-! ### What the two- and one-operand instructions leave alone -/

theorem sameRegistersBut_mono {P Q : Addr → Prop} {s t : State} (h : SameRegistersBut P s t) (hPQ : ∀ a, P a → Q a) :
    SameRegistersBut Q s t := fun a k ha => h a k fun hp => ha (hPQ a hp)

/-- A register write leaves the flags alone unless FLAGS is the register. -/
theorem flag_storeRegister (f : Flag) {a : Addr} (v : Byte) (s : State) (ha : a ≠ 0xFFC) :
    flag f (storeRegister a v s) = flag f s := by
  have flags : (storeRegister a v s).flags = s.flags := registerValue_storeRegister_other 0 a 0xFFC v s ha.symm
  rw [flag, flag, flags, storeRegister_product]

/-- A flag that an update does not name keeps its value over a register write and the update. -/
theorem flag_updateFlags_storeRegister {f : Flag} {u : FlagUpdate} (hu : updateOf u f = none) {a : Addr} (v : Byte)
    (s : State) (ha : a ≠ 0xFFC) : flag f (updateFlags u (storeRegister a v s)) = flag f s := by
  rw [flag_updateFlags, hu, Option.getD_none, flag_storeRegister f v s ha]

theorem flag_updateFlags_unnamed {f : Flag} {u : FlagUpdate} (hu : updateOf u f = none) (s : State) :
    flag f (updateFlags u s) = flag f s := by
  rw [flag_updateFlags, hu, Option.getD_none]

theorem sameOutside_updateFlags_storeRegister (u : FlagUpdate) (a : Addr) (v : Byte) (s : State) :
    SameOutside s (updateFlags u (storeRegister a v s)) :=
  sameOutside_trans (sameOutside_storeRegister a v s) (sameOutside_updateFlags u _)

theorem sameRegistersBut_updateFlags_storeRegister (u : FlagUpdate) (a : Addr) (v : Byte) (s : State) :
    SameRegistersBut (fun b => b = 0xFFC ∨ b = a) s (updateFlags u (storeRegister a v s)) :=
  sameRegistersBut_mono
    (sameRegistersBut_trans (sameRegistersBut_storeRegister a v s) (sameRegistersBut_updateFlags u _))
    fun _ => Or.symm

/-- The groups that store nothing are the compares and the mask tests. -/
theorem storesResult_eq_false_iff (op : Op2) : storesResult op = false ↔ op ∈ [Op2.cp, .cpc, .tm, .tcm] := by
  cases op <;> decide

/-- What a two-operand instruction that goes on did: a write of its result, or none, then the flags of its group. -/
theorem next_of_exec_twoOperand {i : Instr} {op : Op2} {f : Form} {s t : State} {da : Addr}
    (hi : twoOperand i = some (op, f)) (hs : Undisturbed s) (hda : placeAddress 0 f.dst s = .ok da)
    (ht : exec i s = .next t) :
    ∃ d v, t = updateFlags (binaryAlu op s d v).flags
      (if storesResult op then storeRegister da (binaryAlu op s d v).value s else s) := by
  rw [exec_twoOperand hi] at ht
  cases hop : storesResult op with
  | true =>
    rw [hop, if_pos rfl, finish_next_of_calm (combine_calm hs)] at ht
    obtain ⟨da', v, hda', -, -, -, rfl⟩ := (combine_ok _ _ _ _ _ hs).mp ht
    cases hda.symm.trans hda'
    exact ⟨_, v, rfl⟩
  | false =>
    rw [hop, if_neg Bool.false_ne_true, finish_next_of_calm (test_calm hs)] at ht
    obtain ⟨da', v, -, -, -, rfl⟩ := (test_ok _ _ _ _ _ hs).mp ht
    exact ⟨_, v, rfl⟩

/-- D and H are named by additions and subtractions only. -/
theorem binaryAlu_flags_d_h {op : Op2} (hop : op ∉ [Op2.add, .adc, .sub, .sbc]) (s : State) (d v : Byte) :
    updateOf (binaryAlu op s d v).flags .d = none ∧ updateOf (binaryAlu op s d v).flags .h = none := by
  cases op with
  | add | adc | sub | sbc => exact absurd hop (by decide)
  | or | and | tcm | tm | cp | cpc | xor => exact ⟨rfl, rfl⟩

/-- The logical groups do not name C. -/
theorem binaryAlu_flags_c {op : Op2} (hop : op ∈ [Op2.and, .or, .xor, .tm, .tcm]) (s : State) (d v : Byte) :
    updateOf (binaryAlu op s d v).flags .c = none := by
  cases op with
  | or | and | tcm | tm | xor => rfl
  | add | adc | sub | sbc | cp | cpc => exact absurd hop (by decide)

/-- A flag the group does not name keeps its value, unless FLAGS itself is where the result is stored. -/
theorem flag_of_unnamed {op : Op2} {s : State} {da : Addr} {d v : Byte} {f : Flag}
    (hda : da ≠ 0xFFC ∨ op ∈ [Op2.cp, .cpc, .tm, .tcm]) (hu : updateOf (binaryAlu op s d v).flags f = none) :
    flag f (updateFlags (binaryAlu op s d v).flags
      (if storesResult op then storeRegister da (binaryAlu op s d v).value s else s)) = flag f s := by
  cases hop : storesResult op with
  | true =>
    have stores : op ∉ [Op2.cp, .cpc, .tm, .tcm] := fun e =>
      Bool.false_ne_true (((storesResult_eq_false_iff op).mpr e).symm.trans hop)
    exact flag_updateFlags_storeRegister hu _ s (hda.resolve_right stores)
  | false => exact flag_updateFlags_unnamed hu s

/-- Settles O22: an instruction of a group is at most one register write, then an update of the flags its group names. -/
theorem twoOperandFrame : Obligations.TwoOperandFrame := by
  unfold Obligations.TwoOperandFrame
  intro i op f s t da hi hs hda ht
  obtain ⟨d, v, rfl⟩ := next_of_exec_twoOperand hi hs hda ht
  refine ⟨?outside, ?registers, fun hflags => ⟨flag_of_unnamed hflags rfl, flag_of_unnamed hflags rfl,
    fun hop => ⟨?flagD, ?flagH⟩, fun hop => ?flagC⟩⟩
  case outside =>
    split
    · exact sameOutside_updateFlags_storeRegister _ da _ s
    · exact sameOutside_updateFlags _ s
  case registers =>
    cases hop : storesResult op with
    | true =>
      refine sameRegistersBut_mono (sameRegistersBut_updateFlags_storeRegister _ da _ s) fun a ha => ha.imp_right ?_
      exact fun e => ⟨e, fun hmem => Bool.false_ne_true (((storesResult_eq_false_iff op).mpr hmem).symm.trans hop)⟩
    | false => exact sameRegistersBut_mono (sameRegistersBut_updateFlags _ s) fun _ => .inl
  case flagD => exact flag_of_unnamed hflags (binaryAlu_flags_d_h hop s d v).1
  case flagH => exact flag_of_unnamed hflags (binaryAlu_flags_d_h hop s d v).2
  case flagC => exact flag_of_unnamed hflags (binaryAlu_flags_c hop s d v)

/-- What a one-operand instruction that goes on did. -/
theorem next_of_exec_oneOperand {i : Instr} {op : Op1} {p : Place} {s t : State} {da : Addr}
    (hi : oneOperand i = some (op, p)) (hs : Undisturbed s) (hda : placeAddress 0 p s = .ok da)
    (ht : exec i s = .next t) :
    ∃ d, t = updateFlags (unaryAlu op s d).flags (storeRegister da (unaryAlu op s d).value s) := by
  rw [exec_oneOperand hi, finish_next_of_calm (modify_calm hs)] at ht
  obtain ⟨da', hda', -, -, rfl⟩ := (modify_ok _ _ _ _ hs).mp ht
  cases hda.symm.trans hda'
  exact ⟨_, rfl⟩

/-- No one-operand instruction names D or H; DA alone is defined by the rows of its table. -/
theorem unaryAlu_flags_d_h (op : Op1) (s : State) (d : Byte) :
    updateOf (unaryAlu op s d).flags .d = none ∧ updateOf (unaryAlu op s d).flags .h = none := by
  cases op with
  | da =>
    simp only [unaryAlu, decimalAdjust]
    split <;> exact ⟨rfl, rfl⟩
  | inc | dec | com | rl | rlc | rr | rrc | sra | srl | swap | bswap => exact ⟨rfl, rfl⟩

theorem unaryAlu_flags_c {op : Op1} (hop : op ∈ [Op1.inc, .dec, .com]) (s : State) (d : Byte) :
    updateOf (unaryAlu op s d).flags .c = none := by
  cases op with
  | inc | dec | com => rfl
  | rl | rlc | rr | rrc | sra | srl | swap | bswap | da => exact absurd hop (by decide)

/-- Settles O28: a one-operand instruction is one register write, then an update of the flags it names. -/
theorem oneOperandFrame : Obligations.OneOperandFrame := by
  unfold Obligations.OneOperandFrame
  intro i op p s t da hi hs hda ht
  obtain ⟨d, rfl⟩ := next_of_exec_oneOperand hi hs hda ht
  obtain ⟨hd, hh⟩ := unaryAlu_flags_d_h op s d
  exact ⟨sameOutside_updateFlags_storeRegister _ da _ s, sameRegistersBut_updateFlags_storeRegister _ da _ s,
    fun hflags => ⟨flag_updateFlags_storeRegister rfl _ s hflags, flag_updateFlags_storeRegister rfl _ s hflags,
      flag_updateFlags_storeRegister hd _ s hflags, flag_updateFlags_storeRegister hh _ s hflags,
      fun hop => flag_updateFlags_storeRegister (unaryAlu_flags_c hop s d) _ s hflags⟩⟩

end Sys2Proof.Proofs

/-! ## Rotates, shifts and decimal adjust -/

namespace Sys2Proof.Proofs

open Sys2Proof Sys2Proof.Machine Sys2Proof.Claims

/-! ### Rotates and shifts (47_rotate_shift.md) -/

theorem shiftLeftIn_eq_append (d : Byte) (b : Bool) : shiftLeftIn d b = d.extractLsb' 0 7 ++ BitVec.ofBool b := by
  refine BitVec.eq_of_getLsbD_eq fun i hi => ?_
  rw [shiftLeftIn, BitVec.getLsbD_append]
  cases b <;> interval_cases i <;> simp

theorem shiftRightIn_eq_append (b : Bool) (d : Byte) : shiftRightIn b d = BitVec.ofBool b ++ d.extractLsb' 1 7 := by
  refine BitVec.eq_of_getLsbD_eq fun i hi => ?_
  rw [shiftRightIn, BitVec.getLsbD_append]
  cases b <;> interval_cases i <;> simp

theorem shiftLeftIn_toNat (d : Byte) (b : Bool) : (shiftLeftIn d b).toNat = 2 * d.toNat % 256 + bitNat b := by
  rw [shiftLeftIn_eq_append, toNat_append_eq_add, toNat_extractLsb'_eq_mod, BitVec.toNat_ofBool, bitNat_eq_toNat]
  omega

theorem shiftRightIn_toNat (b : Bool) (d : Byte) : (shiftRightIn b d).toNat = d.toNat / 2 + bitNat b * 128 := by
  rw [shiftRightIn_eq_append, toNat_append_eq_add, toNat_extractLsb'_eq_mod, BitVec.toNat_ofBool, bitNat_eq_toNat]
  omega

theorem bitNat_le_one (b : Bool) : bitNat b ≤ 1 := by
  cases b <;> decide

theorem byte_eq_ofNat {b : Byte} {n : Nat} (h : b.toNat = n) : b = BitVec.ofNat 8 n := by
  rw [← h, BitVec.ofNat_toNat, BitVec.setWidth_eq]

theorem bitNat_msb (d : Byte) : bitNat d.msb = d.toNat / 128 := by
  have hd := d.isLt
  rw [msb_byte]
  cases h : decide (128 ≤ d.toNat) with
  | false =>
    have small := of_decide_eq_false h
    change 0 = _
    omega
  | true =>
    have large := of_decide_eq_true h
    change 1 = _
    omega

theorem lowBit_byte (d : Byte) : d.getLsbD 0 = decide (d.toNat % 2 = 1) := by
  rw [BitVec.getLsbD, Nat.testBit_zero]

theorem bitNat_lowBit (d : Byte) : bitNat (d.getLsbD 0) = d.toNat % 2 := by
  rw [lowBit_byte, bitNat_eq_toNat]
  rcases Nat.mod_two_eq_zero_or_one d.toNat with h | h <;> rw [h] <;> rfl

/-- C, Z, S and V of a result given by its number. -/
theorem flags_of_toNat {r : Byte} {n : Nat} (h : r.toNat = n) (c v : Bool) :
    ({ c := some c, z := some (decide (r = 0)), s := some r.msb, v := some v } : FlagUpdate) = shiftFlags c n v := by
  rw [msb_byte, h, shiftFlags, decide_eq_decide.mpr (show r = 0 ↔ n = 0 from by rw [← h]; exact BitVec.toNat_eq)]

theorem rotated_flags {d r : Byte} {n : Nat} (out : Bool) {v : Bool} (h : r.toNat = n)
    (hv : decide (128 ≤ n) = v) : (rotated out d r).flags = shiftFlags out n (decide (128 ≤ d.toNat) != v) := by
  rw [rotated, flags_of_toNat h, msb_byte, msb_byte, h, hv]
  cases v <;> cases decide (128 ≤ d.toNat) <;> rfl

/-- The bit that arrives in the sign of a shift to the left was next to it. -/
theorem sign_of_shiftLeft (n b : Nat) (hb : b ≤ 1) : decide (128 ≤ 2 * n % 256 + b) = decide (64 ≤ n % 128) :=
  decide_eq_decide.mpr (by omega)

/-- The bit that comes in from the left is the sign of the result. -/
theorem sign_of_shiftRight (d : Byte) {b : Nat} (hb : b ≤ 1) : decide (128 ≤ d.toNat / 2 + b * 128) = decide (b = 1) :=
  decide_eq_decide.mpr (by omega)

theorem rotateLeft_value (c : Bool) (d : Byte) :
    (rotateLeftCarry c d).value = BitVec.ofNat 8 (2 * d.toNat % 256 + bitNat c) :=
  byte_eq_ofNat (shiftLeftIn_toNat d c)

theorem rotateLeft_flags (c : Bool) (d : Byte) : (rotateLeftCarry c d).flags =
    shiftFlags (decide (128 ≤ d.toNat)) (2 * d.toNat % 256 + bitNat c)
      (decide (128 ≤ d.toNat) != decide (64 ≤ d.toNat % 128)) := by
  rw [rotateLeftCarry, rotated_flags _ (shiftLeftIn_toNat d c) (sign_of_shiftLeft _ _ (bitNat_le_one c)), msb_byte]

theorem rotateRight_value (c : Bool) (d : Byte) :
    (rotateRightCarry c d).value = BitVec.ofNat 8 (d.toNat / 2 + bitNat c * 128) :=
  byte_eq_ofNat (shiftRightIn_toNat c d)

theorem rotateRight_flags (c : Bool) (d : Byte) : (rotateRightCarry c d).flags =
    shiftFlags (decide (d.toNat % 2 = 1)) (d.toNat / 2 + bitNat c * 128)
      (decide (128 ≤ d.toNat) != decide (bitNat c = 1)) := by
  rw [rotateRightCarry, rotated_flags _ (shiftRightIn_toNat c d) (sign_of_shiftRight d (bitNat_le_one c)), lowBit_byte]

theorem shiftRightArithmetic_value (d : Byte) :
    (shiftRightArithmetic d).value = BitVec.ofNat 8 (d.toNat / 2 + d.toNat / 128 * 128) := by
  rw [← bitNat_msb]
  exact byte_eq_ofNat (shiftRightIn_toNat d.msb d)

theorem shiftRightArithmetic_flags (d : Byte) : (shiftRightArithmetic d).flags =
    shiftFlags (decide (d.toNat % 2 = 1)) (d.toNat / 2 + d.toNat / 128 * 128) false := by
  rw [← bitNat_msb, ← lowBit_byte]
  exact flags_of_toNat (shiftRightIn_toNat d.msb d) _ _

theorem shiftRightIn_zero_toNat (d : Byte) : (shiftRightIn false d).toNat = d.toNat / 2 :=
  shiftRightIn_toNat false d

theorem shiftRightLogical_flags (p : SrlV) (d : Byte) : (shiftRightLogical p d).flags =
    shiftFlags (decide (d.toNat % 2 = 1)) (d.toNat / 2) (decide (128 ≤ d.toNat ∧ p = .signChanged)) := by
  have sign : (shiftRightIn false d).msb = false := by
    rw [msb_byte, shiftRightIn_zero_toNat]
    exact decide_eq_false (by omega)
  rw [← lowBit_byte, ← flags_of_toNat (shiftRightIn_zero_toNat d), sign]
  cases p <;> simp [shiftRightLogical, msb_byte]

theorem swapNibbles_toNat (d : Byte) :
    (d.extractLsb' 0 4 ++ d.extractLsb' 4 4 : Byte).toNat = d.toNat % 16 * 16 + d.toNat / 16 := by
  rw [toNat_append_eq_add, toNat_extractLsb'_eq_mod, toNat_extractLsb'_eq_mod]
  omega

/-- What a one-operand instruction does to an operand that can be read and written. -/
theorem exec_oneOperand_ok {i : Instr} {op : Op1} {p : Place} {s : State} {da : Addr}
    (hi : oneOperand i = some (op, p)) (hs : Undisturbed s) (hda : placeAddress 0 p s = .ok da)
    (hread : Readable da s) (hwrite : Writable da s) :
    exec i s = .next (updateFlags (unaryAlu op s (registerValue 2 da s)).flags
      (storeRegister da (unaryAlu op s (registerValue 2 da s)).value s)) := by
  rw [exec_oneOperand hi, (modify_ok _ p s _ hs).mpr ⟨da, hda, hread, hwrite, rfl⟩, finish_ok]

/-- Settles O25: the rotates without carry are those with the bit that leaves the register as carry in, and the two
shifts to the right bring in the sign and 0. -/
theorem rotateShiftTable : Obligations.RotateShiftTable := by
  unfold Obligations.RotateShiftTable
  refine ⟨?rl, ?rlc, ?rr, ?rrc, ?sra, ?srl, ?swap, ?bswap⟩
  case rl =>
    refine modifies_of_unaryAlu (fun d _ => ?_) fun d _ => ?_ <;> rw [← bitNat_msb]
    · exact rotateLeft_value d.msb d
    · exact rotateLeft_flags d.msb d
  case rlc =>
    exact modifies_of_unaryAlu (fun d s => rotateLeft_value (flag .c s) d) fun d s => rotateLeft_flags (flag .c s) d
  case rr =>
    refine modifies_of_unaryAlu (fun d _ => ?_) fun d _ => ?_ <;> rw [← bitNat_lowBit]
    · exact rotateRight_value (d.getLsbD 0) d
    · refine (rotateRight_flags (d.getLsbD 0) d).trans ?_
      rw [bitNat_lowBit]
  case rrc =>
    exact modifies_of_unaryAlu (fun d s => rotateRight_value (flag .c s) d) fun d s => rotateRight_flags (flag .c s) d
  case sra =>
    exact modifies_of_unaryAlu (fun d _ => shiftRightArithmetic_value d) fun d _ => shiftRightArithmetic_flags d
  case srl =>
    exact modifies_of_unaryAlu (fun d _ => byte_eq_ofNat (shiftRightIn_zero_toNat d))
      fun d s => shiftRightLogical_flags s.product.srlV d
  case swap =>
    intro i p s da hi
    refine ⟨encode_oneOperand hi, fun hs hda hread hwrite =>
      ⟨Config.freeBit s.tick .flagC, Config.freeBit s.tick .flagV, ?_⟩⟩
    intro r
    have value : (swapNibbles s.tick (registerValue 2 da s)).value.toNat = r := swapNibbles_toNat _
    rw [exec_oneOperand_ok hi hs hda hread hwrite, ← byte_eq_ofNat value, ← flags_of_toNat value]
    rfl
  case bswap =>
    intro i p s da hi
    refine ⟨encode_oneOperand hi, fun hs hda hread hwrite =>
      ⟨Config.freeBit s.tick .flagC, (registerValue 2 da s).reverse, fun j hj => ?_, ?_⟩⟩
    · rw [BitVec.getLsbD_reverse, BitVec.getMsbD_eq_getLsbD]
      simp [hj]
    · rw [exec_oneOperand_ok hi hs hda hread hwrite, ← flags_of_toNat rfl]
      rfl

/-! ### Decimal adjust (40_arithmetic.md R182, R183) -/

/-- Table 24 in closed form: after an addition the corrections of the two digits are independent, after a subtraction
the flags alone decide. -/
theorem eq_of_daSays {d c h : Bool} {hi lo n : Nat} {c1 : Bool} (row : DaSays d c h hi lo n c1) :
    n = (if d then (if h then 0xFA else 0) + (if c then 0xA0 else 0)
      else (if h = true ∨ 9 < lo then 0x06 else 0) +
        (if c = true ∨ 9 < hi ∨ (hi = 9 ∧ 9 < lo) then 0x60 else 0)) % 256 ∧
    c1 = (if d then c else decide (c = true ∨ 9 < hi ∨ (hi = 9 ∧ 9 < lo))) := by
  rcases row with row | row | row | row | row | row | row | row | row | row | row | row | row <;>
    obtain ⟨rfl, rfl, rfl, _, _, rfl, rfl⟩ := row <;> grind

/-- The conditions of a row, the byte given by its two digits. -/
def Covers (row : DaRow) (d c h : Bool) (hi lo : Nat) : Prop :=
  row.d = d ∧ row.c = c ∧ row.h = h ∧ row.hiMin ≤ hi ∧ hi ≤ row.hiMax ∧ row.loMin ≤ lo ∧ lo ≤ row.loMax

theorem daMatches_iff (s : State) (b : Byte) (row : DaRow) :
    daMatches s.product.flagBit s.flags b row = true ↔
      Covers row (flag .d s) (flag .c s) (flag .h s) (b.toNat / 16) (b.toNat % 16) := by
  simp only [daMatches, Covers, Bool.and_eq_true, decide_eq_true_eq, and_assoc]
  rfl

/-- The model's table says no more than Table 24. -/
theorem daSays_of_covers {row : DaRow} (hrow : row ∈ daTable) {d c h : Bool} {hi lo : Nat}
    (covers : Covers row d c h hi lo) : DaSays d c h hi lo row.added.toNat row.carry := by
  simp only [daTable, List.mem_cons, List.not_mem_nil, or_false] at hrow
  rcases hrow with e | e | e | e | e | e | e | e | e | e | e | e | e <;> subst e <;>
    obtain ⟨rfl, rfl, rfl, hhi⟩ := covers <;> dsimp only at hhi <;> simp [DaSays] <;> omega

/-- The model's table says no less than Table 24. -/
theorem exists_covers_of_daSays {d c h : Bool} {hi lo n : Nat} {c1 : Bool} (told : DaSays d c h hi lo n c1)
    (hhi : hi ≤ 15) (hlo : lo ≤ 15) : ∃ row ∈ daTable, Covers row d c h hi lo := by
  rcases told with e | e | e | e | e | e | e | e | e | e | e | e | e <;>
    obtain ⟨rfl, rfl, rfl, hdigits⟩ := e <;> simp [daTable, Covers] <;> omega

theorem digits_le (b : Byte) : b.toNat / 16 ≤ 15 ∧ b.toNat % 16 ≤ 15 := by
  have hb := b.isLt
  omega

/-- Where Table 24 speaks, the model finds a row, and as no two rows meet it is that row. -/
theorem find_of_daRowFor {s : State} {b : Byte} {n : Nat} {c1 : Bool} (told : DaRowFor s b n c1) :
    ∃ row, daTable.find? (daMatches s.product.flagBit s.flags b) = some row ∧ row.added.toNat = n ∧
      row.carry = c1 := by
  obtain ⟨hhi, hlo⟩ := digits_le b
  obtain ⟨row, hrow, covers⟩ := exists_covers_of_daSays told hhi hlo
  obtain ⟨found, hfound⟩ := Option.isSome_iff_exists.mp
    (List.find?_isSome.mpr ⟨row, hrow, (daMatches_iff s b row).mpr covers⟩)
  have found_covers := (daMatches_iff s b found).mp (List.find?_some hfound)
  obtain ⟨hn, hc⟩ := eq_of_daSays (daSays_of_covers (List.mem_of_find?_eq_some hfound) found_covers)
  obtain ⟨hn', hc'⟩ := eq_of_daSays told
  exact ⟨found, hfound, hn.trans hn'.symm, hc.trans hc'.symm⟩

theorem find_of_no_daRowFor {s : State} {b : Byte} (silent : ∀ n c1, ¬ DaRowFor s b n c1) :
    daTable.find? (daMatches s.product.flagBit s.flags b) = none :=
  List.find?_eq_none.mpr fun row hrow h => silent _ _ (daSays_of_covers hrow ((daMatches_iff s b row).mp h))

/-- Settles O26: the closed form decides number and carry, so no two rows meet, and the row the model finds is the
one the statement names. -/
theorem decimalAdjustTable : Obligations.DecimalAdjustTable := by
  unfold Obligations.DecimalAdjustTable
  refine ⟨?disjoint, fun d c h hi lo n c1 => eq_of_daSays, ?executes⟩
  case disjoint =>
    intro d c h hi lo n1 n2 c1 c2 row1 row2
    obtain ⟨hn1, hc1⟩ := eq_of_daSays row1
    obtain ⟨hn2, hc2⟩ := eq_of_daSays row2
    exact ⟨hn1.trans hn2.symm, hc1.trans hc2.symm⟩
  case executes =>
    intro i p s da n c1 hi hs hda hread hwrite told
    obtain ⟨row, found, rfl, rfl⟩ := find_of_daRowFor told
    refine ⟨Config.freeBit s.tick .flagV, ?_⟩
    intro r
    have sum : (registerValue 2 da s + row.added).toNat = r := BitVec.toNat_add _ _
    rw [exec_oneOperand_ok hi hs hda hread hwrite, ← byte_eq_ofNat sum, ← flags_of_toNat sum]
    simp only [unaryAlu, decimalAdjust, found]

/-- Settles O27: with no row to find, the model answers every value freely. -/
theorem decimalAdjustOpen : Obligations.DecimalAdjustOpen := by
  unfold Obligations.DecimalAdjustOpen
  intro i p s da hi hs hda hread hwrite silent
  refine ⟨Config.freeByte s.tick .daResult, Config.freeBit s.tick .flagC, Config.freeBit s.tick .flagZ,
    Config.freeBit s.tick .flagS, Config.freeBit s.tick .flagV, ?_⟩
  rw [exec_oneOperand_ok hi hs hda hread hwrite]
  simp only [unaryAlu, decimalAdjust, find_of_no_daRowFor silent]

end Sys2Proof.Proofs

/-! ## The stack -/

namespace Sys2Proof.Proofs

open Sys2Proof Sys2Proof.Machine Sys2Proof.Claims

/-! ### The Stack Pointer (10_state.md R40, R41) -/

theorem setStackPointer_sph (v : Addr) (s : State) :
    (setStackPointer v s).sph = s.sph.extractLsb' 4 4 ++ v.extractLsb' 8 4 := rfl

theorem setStackPointer_sph_high (v : Addr) (s : State) :
    (setStackPointer v s).sph.toNat / 16 = s.sph.toNat / 16 := by
  have hs := s.sph.isLt
  rw [setStackPointer_sph, toNat_append_eq_add, toNat_extractLsb'_eq_mod, toNat_extractLsb'_eq_mod]
  omega

theorem sameRegistersBut_setStackPointer (v : Addr) (s : State) :
    SameRegistersBut (fun a => a = 0xFFE ∨ a = 0xFFF) s (setStackPointer v s) := by
  rw [setStackPointer_eq_storeRegister]
  exact sameRegistersBut_trans (sameRegistersBut_storeRegister _ _ s) (sameRegistersBut_storeRegister _ _ _)

/-- Settles O36: the Stack Pointer is four bits of SPH and all of SPL, and moving it writes those twelve bits. -/
theorem stackPointerMoves : Obligations.StackPointerMoves := by
  unfold Obligations.StackPointerMoves
  exact fun v s => ⟨stackPointer_toNat s, stackPointer_setStackPointer v s, setStackPointer_sph_high v s,
    sameOutside_setStackPointer v s, sameRegistersBut_setStackPointer v s⟩

/-- A write of any other register leaves the Stack Pointer where it is. -/
theorem stackPointer_storeRegister {a : Addr} (v : Byte) (s : State) (high : a ≠ 0xFFE) (low : a ≠ 0xFFF) :
    stackPointer (storeRegister a v s) = stackPointer s := by
  have sph : (storeRegister a v s).sph = s.sph := registerValue_storeRegister_other 0 a 0xFFE v s high.symm
  have spl : (storeRegister a v s).spl = s.spl := registerValue_storeRegister_other 0 a 0xFFF v s low.symm
  rw [stackPointer, stackPointer, sph, spl]

theorem stackPointer_popped (s : State) : stackPointer (popped s) = stackPointer s + 1 :=
  stackPointer_setStackPointer _ s

/-! ### PUSH and POP (44_load.md R274, R276) -/

theorem pushFrom_eq_push8 {src : Source} {s : State} {v : Byte} (hs : Undisturbed s) (hv : sourceValue src s = .ok v) :
    pushFrom src s = push8 v s := by
  unfold pushFrom
  rw [(accessSource_ok src s s v hs).mpr ⟨hv, rfl⟩]
  rfl

theorem releaseByte_of_ne {s : State} (h : spOf s ≠ 0xFFF) : releaseByte s = .ok (popped s) :=
  (releaseByte_ok s _).mpr ⟨fun e => h ((spOf_eq_iff 0xFFF s).mpr e), rfl⟩

theorem releaseByte_of_top {s : State} (h : spOf s = 0xFFF) : releaseByte s = refuse .stackUnderflow := by
  rw [releaseByte, if_pos ((spOf_eq_iff 0xFFF s).mp h)]

/-- Where the read of the stack goes on and both accesses are allowed, a pop ends with the release of the byte. -/
theorem popInto_eq_releaseByte {p : Place} {s : State} {da : Addr} (hs : Undisturbed s)
    (hda : placeAddress 0 p s = .ok da) (goes : stackGoesOn (stackPointer s) s = true)
    (hread : Readable (stackPointer s) s) (hwrite : Writable da s) :
    popInto p s = releaseByte (storeRegister da (registerValue 6 (stackPointer s) s) s) := by
  unfold popInto
  rw [(accessPlace_ok 0 p s s da hs).mpr ⟨hda, rfl⟩]
  simp only [bind, Except.bind]
  rw [(accessStack_ok 6 s s _ hs).mpr ⟨goes, hread, rfl, rfl⟩]
  simp only
  rw [writeRegister_of_writable _ hs hwrite]

theorem popInto_of_stop {p : Place} {s : State} {da : Addr} (hs : Undisturbed s) (hda : placeAddress 0 p s = .ok da)
    (stops : stackGoesOn (stackPointer s) s = false) :
    popInto p s = refuse (.stackUnavailable (stackPointer s)) := by
  unfold popInto
  rw [(accessPlace_ok 0 p s s da hs).mpr ⟨hda, rfl⟩]
  simp only [bind, Except.bind, accessStack, stops, Bool.false_eq_true, if_false, refuse]

/-- Settles O37: a push is its source and one push, a pop its destination and one release. -/
theorem pushAndPop : Obligations.PushAndPop := by
  unfold Obligations.PushAndPop
  constructor
  case left =>
    intro i src s v hi hs hv room
    rw [exec_pushSource hi, pushFrom_eq_push8 hs hv, push8_of_pushable v hs room, finish_ok]
  case right =>
    intro i p s da hi hs hda isAvailable hread hwrite t below
    rw [exec_popPlace hi, popInto_eq_releaseByte hs hda (stackGoesOn_of_available isAvailable) hread hwrite,
      releaseByte_of_ne below, finish_ok]

/-! ### The ends of the stack (10_state.md R45) -/

theorem push8_of_bottom (v : Byte) {s : State} (h : spOf s = 0) : push8 v s = refuse .stackOverflow := by
  rw [push8, if_pos ((spOf_eq_iff 0 s).mp h)]

/-- A byte pushed where there is no register is lost, or the push stops. -/
theorem push8_of_unavailable (v : Byte) {s : State} (hs : Undisturbed s) (above : spOf s ≠ 0)
    (isUnavailable : available (stackPointer s - 1) s = false) (hwrite : Writable (stackPointer s - 1) s) :
    push8 v s = refuse (.stackUnavailable (stackPointer s - 1)) ∨
      push8 v s = .ok (setStackPointer (stackPointer s - 1) s) := by
  have positive : stackPointer s ≠ 0 := fun e => above ((spOf_eq_iff 0 s).mpr e)
  cases goes : stackGoesOn (stackPointer s - 1) s with
  | false =>
    left
    rw [push8, if_neg positive, goes, if_neg Bool.false_ne_true]
  | true =>
    right
    refine (push8_ok v s _ hs).mpr ⟨positive, goes, hwrite, (storeRegister_of_unavailable v ?_).symm⟩
    rw [available_of_product (sameOutside_setStackPointer _ s).product, isUnavailable]

theorem pop8_of_top (k : Nat) {s : State} (hs : Undisturbed s) (h : spOf s = 0xFFF) :
    pop8 k s = refuse .stackUnderflow := by
  have top : stackPointer s = 0xFFF := (spOf_eq_iff 0xFFF s).mp h
  have isAvailable : available (stackPointer s) s = true := top ▸ available_of_isCoreRegister (a := 0xFFF) (by decide) s
  have hread : Readable (stackPointer s) s := by
    rw [Readable, accessRight_readWrite s (.inl (by rw [top]; decide))]
    decide
  rw [pop8, (accessStack_ok k s s _ hs).mpr ⟨stackGoesOn_of_available isAvailable, hread, rfl, rfl⟩]
  simp only [bind, Except.bind, releaseByte_of_top h, refuse]

/-! ### A stack in general-purpose registers -/

/-- The address `j` below the Stack Pointer. -/
theorem toNat_below {n j : Nat} {s : State} (h : PlainStack n s) (hj : j ≤ n) :
    (stackPointer s - BitVec.ofNat 12 j).toNat = spOf s - j := by
  obtain ⟨room, -, -⟩ := h
  have hsp : (stackPointer s).toNat = spOf s := rfl
  have bound := (stackPointer s).isLt
  rw [BitVec.toNat_sub, BitVec.toNat_ofNat]
  omega

theorem plain_below {n j : Nat} {s : State} (h : PlainStack n s) (hpos : 1 ≤ j) (hj : j ≤ n) :
    Plain (stackPointer s - BitVec.ofNat 12 j) s := by
  have place := toNat_below h hj
  obtain ⟨room, top, exist⟩ := h
  have isAvailable := exist j hpos hj
  rw [← place, BitVec.ofNat_toNat, BitVec.setWidth_eq] at isAvailable
  exact ⟨by omega, isAvailable⟩

theorem pushable_of_plainStack {n : Nat} {s : State} (h : PlainStack (n + 1) s) : Pushable s := by
  have plain : Plain (stackPointer s - 1) s := plain_below (j := 1) h (le_refl 1) (Nat.le_add_left 1 n)
  obtain ⟨room, -, -⟩ := h
  exact ⟨by omega, plain.2, writable_of_plain plain⟩

theorem stackPointer_pushed {s : State} (v : Byte) (h : (stackPointer s - 1).toNat < 0xFFE) :
    stackPointer (pushed v s) = stackPointer s - 1 := by
  have high : stackPointer s - 1 ≠ 0xFFE := fun e => by rw [e] at h; exact absurd h (by decide)
  have low : stackPointer s - 1 ≠ 0xFFF := fun e => by rw [e] at h; exact absurd h (by decide)
  exact (stackPointer_storeRegister v _ high low).trans (stackPointer_setStackPointer _ s)

theorem sameRegistersBut_pushed (v : Byte) (s : State) :
    SameRegistersBut (fun a => (a = 0xFFE ∨ a = 0xFFF) ∨ a = stackPointer s - 1) s (pushed v s) :=
  sameRegistersBut_trans (sameRegistersBut_setStackPointer _ s) (sameRegistersBut_storeRegister _ v _)

theorem inv_setStackPointer (v : Addr) {s : State} (hs : s.Inv) : (setStackPointer v s).Inv := by
  rw [setStackPointer_eq_storeRegister]
  exact inv_storeRegister _ _ (inv_storeRegister _ _ hs)

theorem inv_pushed (v : Byte) {s : State} (hs : s.Inv) : (pushed v s).Inv :=
  inv_storeRegister _ v (inv_setStackPointer _ hs)

theorem registerValue_pushed (k : Nat) (v : Byte) {s : State} (hs : s.Inv) (h : Plain (stackPointer s - 1) s) :
    registerValue k (stackPointer s - 1) (pushed v s) = v :=
  registerValue_storeRegister_same k v (inv_setStackPointer _ hs).rf_wf
    (.inr (.inr ((plain_of_product (sameOutside_setStackPointer _ s).product _).mpr h)))

theorem stackPointer_pushed_of_plainStack {n : Nat} {s : State} (v : Byte) (h : PlainStack (n + 1) s) :
    stackPointer (pushed v s) = stackPointer s - 1 := by
  obtain ⟨low, -⟩ : Plain (stackPointer s - 1) s := plain_below (j := 1) h (le_refl 1) (Nat.le_add_left 1 n)
  exact stackPointer_pushed v (by omega)

theorem plainStack_pushed {n : Nat} {s : State} (v : Byte) (h : PlainStack (n + 1) s) : PlainStack n (pushed v s) := by
  have moved : spOf (pushed v s) = spOf s - 1 :=
    (congrArg BitVec.toNat (stackPointer_pushed_of_plainStack v h)).trans (toNat_below (j := 1) h (Nat.le_add_left 1 n))
  obtain ⟨room, top, exist⟩ := h
  refine ⟨by omega, by omega, fun j hpos hj => ?_⟩
  rw [available_of_product (sameOutside_pushed v s).product, moved, Nat.sub_sub, Nat.add_comm 1 j]
  exact exist (j + 1) (by omega) (by omega)

theorem roomForWord_of_plainStack {n : Nat} {s : State} (w : Word) (h : PlainStack (n + 2) s) : RoomForWord w s :=
  ⟨pushable_of_plainStack h, pushable_of_plainStack (plainStack_pushed _ h)⟩

theorem plainStack_pushedWord {n : Nat} {s : State} (w : Word) (h : PlainStack (n + 2) s) :
    PlainStack n (pushedWord w s) := plainStack_pushed _ (plainStack_pushed _ h)

theorem roomForFrame_of_plainStack {s : State} (ret : Word) (h : PlainStack 3 s) : RoomForFrame ret s :=
  ⟨roomForWord_of_plainStack ret h, pushable_of_plainStack (plainStack_pushedWord ret h)⟩

/-! ### Both ends, for two and three bytes -/

theorem push16_of_bottom (w : Word) {s : State} (hs : Undisturbed s) (hzero : available 0x000 s = true)
    (h : spOf s < 2) : push16 w s = refuse .stackOverflow := by
  unfold push16
  rcases Nat.lt_or_ge (spOf s) 1 with h0 | h1
  · rw [push8_of_bottom _ (by omega)]
    rfl
  · have plain : PlainStack 1 s := by
      refine ⟨h1, by omega, fun j hpos hj => ?_⟩
      rw [show spOf s - j = 0 by omega]
      exact hzero
    rw [push8_of_pushable _ hs (pushable_of_plainStack plain)]
    have moved : spOf (pushed (w.extractLsb' 0 8) s) = spOf s - 1 :=
      (congrArg BitVec.toNat (stackPointer_pushed_of_plainStack _ plain)).trans (toNat_below (j := 1) plain (le_refl 1))
    exact push8_of_bottom _ (by omega)

theorem takeException_of_bottom (ret vector : Word) (clears : Bool) {s : State} (hs : Undisturbed s)
    (hzero : available 0x000 s = true) (hone : available 0x001 s = true) (h : spOf s < 3) :
    takeException ret vector clears s = refuse .stackOverflow := by
  unfold takeException
  rcases Nat.lt_or_ge (spOf s) 2 with h1 | h2
  · rw [push16_of_bottom ret hs hzero h1]
    rfl
  · have plain : PlainStack 2 s := by
      refine ⟨h2, by omega, fun j hpos hj => ?_⟩
      obtain rfl | rfl : j = 1 ∨ j = 2 := by omega
      · rw [show spOf s - 1 = 1 by omega]
        exact hone
      · rw [show spOf s - 2 = 0 by omega]
        exact hzero
    rw [push16_of_roomForWord hs (roomForWord_of_plainStack ret plain)]
    have once : spOf (pushed (ret.extractLsb' 0 8) s) = spOf s - 1 :=
      (congrArg BitVec.toNat (stackPointer_pushed_of_plainStack _ plain)).trans (toNat_below (j := 1) plain (by decide))
    have twice : spOf (pushedWord ret s) = spOf (pushed (ret.extractLsb' 0 8) s) - 1 :=
      (congrArg BitVec.toNat (stackPointer_pushed_of_plainStack _ (plainStack_pushed _ plain))).trans
        (toNat_below (j := 1) (plainStack_pushed _ plain) (le_refl 1))
    simp only [bind, Except.bind, push8_of_bottom _ (show spOf (pushedWord ret s) = 0 by omega), refuse]

/-- A byte can be popped from the registers of the core but the last. -/
theorem poppable_of_core {s : State} (h : 0xFFC ≤ spOf s) (below : spOf s ≠ 0xFFF) : Poppable s := by
  refine ⟨below, available_of_isCoreRegister (isCoreRegister_of_le h) s, ?_⟩
  rw [Readable, accessRight_readWrite s (.inl h)]
  decide

theorem spOf_popped {s : State} (below : spOf s ≠ 0xFFF) : spOf (popped s) = spOf s + 1 := by
  have bound := (stackPointer s).isLt
  have h : spOf s = (stackPointer s).toNat := rfl
  rw [spOf, stackPointer_popped, BitVec.toNat_add, ← h, show (1 : Addr).toNat = 1 from rfl]
  omega

theorem pop16_of_top (k : Nat) {s : State} (hs : Undisturbed s) (h : 0xFFE ≤ spOf s) :
    pop16 k s = refuse .stackUnderflow := by
  unfold pop16
  by_cases top : spOf s = 0xFFF
  · rw [pop8_of_top k hs top]
    rfl
  · have bound : spOf s < 4096 := (stackPointer s).isLt
    have moved := spOf_popped top
    rw [pop8_of_poppable k hs (poppable_of_core (by omega) top)]
    simp only [bind, Except.bind, pop8_of_top (k + 1) (undisturbed_popped hs) (show spOf (popped s) = 0xFFF by omega),
      refuse]

theorem returnFromException_of_top {s : State} (hs : Undisturbed s) (h : 0xFFD ≤ spOf s) :
    returnFromException s = refuse .stackUnderflow := by
  unfold returnFromException
  by_cases top : spOf s = 0xFFF
  · rw [pop8_of_top 0 hs top]
    rfl
  · have moved := spOf_popped top
    rw [pop8_of_poppable 0 hs (poppable_of_core (by omega) top)]
    have above : 0xFFE ≤ spOf (withFlags (registerValue 0 (stackPointer s) s) (popped s)) := by
      change 0xFFE ≤ spOf (popped s)
      omega
    simp only [bind, Except.bind, pop16_of_top 1 (s := withFlags _ (popped s)) (undisturbed_popped hs) above, refuse]

/-- Settles O38: a step past either end is refused whatever came before it in the instruction, and at a missing register
the open bit of the access decides. -/
theorem stackEnds : Obligations.StackEnds := by
  unfold Obligations.StackEnds
  refine ⟨?push, ?pop, ?words⟩
  case push =>
    intro i src s v hi hs hv
    rw [exec_pushSource hi, pushFrom_eq_push8 hs hv]
    constructor
    · intro bottom
      rw [push8_of_bottom v bottom, finish_refuse]
    · intro above isUnavailable hwrite
      rcases push8_of_unavailable v hs above isUnavailable hwrite with e | e <;> rw [e]
      · exact .inl (finish_refuse _)
      · exact .inr (finish_ok _)
  case pop =>
    intro i p s da hi hs hda hread hwrite t
    rw [exec_popPlace hi]
    constructor
    · intro isAvailable top
      rw [popInto_eq_releaseByte hs hda (stackGoesOn_of_available isAvailable) hread hwrite, releaseByte_of_top top,
        finish_refuse]
    · intro isUnavailable below
      cases goes : stackGoesOn (stackPointer s) s with
      | false => exact .inl (by rw [popInto_of_stop hs hda goes, finish_refuse])
      | true => exact .inr (by rw [popInto_eq_releaseByte hs hda goes hread hwrite, releaseByte_of_ne below, finish_ok])
  case words =>
    intro t v s hs hzero hone
    refine ⟨fun h => ?call, fun h => ?trap, fun h => ?ret, fun h => ?iret⟩
    case call =>
      rw [exec_call_DA, callTo, push16_of_bottom _ hs hzero h]
      rfl
    case trap => rw [exec_trap, softwareTrap, takeException_of_bottom _ _ _ hs hzero hone h, finish_refuse]
    case ret =>
      rw [exec_ret, returnFromCall, pop16_of_top 0 hs h]
      rfl
    case iret => rw [exec_iret, returnFromException_of_top hs h, finish_refuse]

end Sys2Proof.Proofs

/-! ## Frames and returns -/

namespace Sys2Proof.Proofs

open Sys2Proof Sys2Proof.Machine Sys2Proof.Claims

/-! ### A word on a stack in general-purpose registers -/

/-- SPH or SPL. -/
def IsStackPointer (a : Addr) : Prop := a = 0xFFE ∨ a = 0xFFF

theorem not_isStackPointer_of_plain {a : Addr} {s : State} (h : Plain a s) : ¬ IsStackPointer a := by
  obtain ⟨hlt, -⟩ := h
  rintro (rfl | rfl) <;> exact absurd hlt (by decide)

theorem ne_of_plain {a b : Addr} {s : State} (h : Plain b s) (ha : 0xF00 ≤ a.toNat) : a ≠ b := by
  rintro rfl
  exact absurd h.1 (Nat.not_lt.mpr ha)

theorem addr_sub_sub (a : Addr) : a - 1 - 1 = a - 2 ∧ a - 2 - 1 = a - 3 := by
  constructor <;> bv_omega

theorem stackPointer_pushedWord {n : Nat} {s : State} (w : Word) (h : PlainStack (n + 2) s) :
    stackPointer (pushedWord w s) = stackPointer s - 2 := by
  rw [pushedWord, stackPointer_pushed_of_plainStack _ (plainStack_pushed _ h), stackPointer_pushed_of_plainStack _ h,
    (addr_sub_sub _).1]

theorem sameRegistersBut_pushedWord {n : Nat} {s : State} (w : Word) (h : PlainStack (n + 2) s) :
    SameRegistersBut (fun a => IsStackPointer a ∨ a = stackPointer s - 1 ∨ a = stackPointer s - 2) s
      (pushedWord w s) := by
  have second := sameRegistersBut_pushed (w.extractLsb' 8 8) (pushed (w.extractLsb' 0 8) s)
  rw [stackPointer_pushed_of_plainStack _ h, (addr_sub_sub _).1] at second
  refine sameRegistersBut_mono (sameRegistersBut_trans (sameRegistersBut_pushed _ s) second) ?_
  rintro a ((ha | ha) | (ha | ha))
  · exact .inl ha
  · exact .inr (.inl ha)
  · exact .inl ha
  · exact .inr (.inr ha)

/-- The byte a push leaves on top of such a stack. -/
theorem registerValue_pushed_of_plainStack {n : Nat} {s : State} (k : Nat) (v : Byte) (hs : s.Inv)
    (h : PlainStack (n + 1) s) : registerValue k (stackPointer s - 1) (pushed v s) = v :=
  registerValue_pushed k v hs (plain_below (j := 1) h (le_refl 1) (Nat.le_add_left 1 n))

theorem registerValue_pushedWord_high {n : Nat} {s : State} (k : Nat) (w : Word) (hs : s.Inv)
    (h : PlainStack (n + 2) s) : registerValue k (stackPointer s - 2) (pushedWord w s) = w.extractLsb' 8 8 := by
  have written := registerValue_pushed_of_plainStack k (w.extractLsb' 8 8) (inv_pushed (w.extractLsb' 0 8) hs)
    (plainStack_pushed _ h)
  rwa [stackPointer_pushed_of_plainStack _ h, (addr_sub_sub _).1] at written

theorem registerValue_pushedWord_low {n : Nat} {s : State} (k : Nat) (w : Word) (hs : s.Inv)
    (h : PlainStack (n + 2) s) : registerValue k (stackPointer s - 1) (pushedWord w s) = w.extractLsb' 0 8 := by
  have plain : Plain (stackPointer s - 1) s := plain_below (j := 1) h (le_refl 1) (by omega)
  have kept := sameRegistersBut_pushed (w.extractLsb' 8 8) (pushed (w.extractLsb' 0 8) s) (stackPointer s - 1) k
  rw [stackPointer_pushed_of_plainStack _ h] at kept
  refine (kept ?_).trans (registerValue_pushed_of_plainStack k _ hs h)
  rintro (ha | ha)
  · exact not_isStackPointer_of_plain plain ha
  · exact absurd ha (by bv_omega)

theorem inv_pushedWord (w : Word) {s : State} (hs : s.Inv) : (pushedWord w s).Inv := inv_pushed _ (inv_pushed _ hs)

/-! ### Coming back -/

/-- Popping changes SPH and SPL alone. -/
theorem sameRegistersBut_popped (s : State) : SameRegistersBut IsStackPointer s (popped s) :=
  sameRegistersBut_setStackPointer _ s

theorem registerValue_popped (k : Nat) {a : Addr} {s : State} (ha : ¬ IsStackPointer a) :
    registerValue k a (popped s) = registerValue k a s := sameRegistersBut_popped s a k ha

theorem sph_high_popped (s : State) : (popped s).sph.toNat / 16 = s.sph.toNat / 16 := setStackPointer_sph_high _ s

theorem sph_high_pushed {n : Nat} {s : State} (v : Byte) (h : PlainStack (n + 1) s) :
    (pushed v s).sph.toNat / 16 = s.sph.toNat / 16 := by
  have plain : Plain (stackPointer s - 1) s := plain_below (j := 1) h (le_refl 1) (Nat.le_add_left 1 n)
  have kept : (pushed v s).sph = (setStackPointer (stackPointer s - 1) s).sph :=
    registerValue_storeRegister_other 0 (stackPointer s - 1) 0xFFE v _ (ne_of_plain plain (by decide))
  rw [kept, setStackPointer_sph_high]

/-- SPH and SPL hold what they held once the Stack Pointer and SPH[7:4] do. -/
theorem sameRegistersBut_of_stackPointer {P : Addr → Prop} {s t : State}
    (h : SameRegistersBut (fun a => IsStackPointer a ∨ P a) s t) (moved : stackPointer t = stackPointer s)
    (high : t.sph.toNat / 16 = s.sph.toNat / 16) : SameRegistersBut P s t := by
  have number : (stackPointer t).toNat = (stackPointer s).toNat := congrArg BitVec.toNat moved
  rw [stackPointer_toNat, stackPointer_toNat] at number
  have boundS := s.spl.isLt
  have boundT := t.spl.isLt
  have sph : t.sph = s.sph := BitVec.eq_of_toNat_eq (by omega)
  have spl : t.spl = s.spl := BitVec.eq_of_toNat_eq (by omega)
  intro a k ha
  by_cases pointer : IsStackPointer a
  · rcases pointer with rfl | rfl
    · exact sph
    · exact spl
  · exact h a k (not_or.mpr ⟨pointer, ha⟩)

theorem poppable_of_plain {s : State} (h : Plain (stackPointer s) s) : Poppable s := by
  obtain ⟨hlt, isAvailable⟩ := h
  refine ⟨fun e => ?_, isAvailable, readable_of_plain ⟨hlt, isAvailable⟩⟩
  rw [spOf] at e
  omega

theorem registerValue_branchTo (k : Nat) (a : Addr) (target : Word) (s : State) :
    registerValue k a (branchTo target s) = registerValue k a s := rfl

theorem stackPointer_branchTo (target : Word) (s : State) : stackPointer (branchTo target s) = stackPointer s := rfl

theorem plain_branchTo {a : Addr} {target : Word} {s : State} (h : Plain a s) : Plain a (branchTo target s) := h

/-- Each pop comes to the next byte of the word, and the second to where the Stack Pointer was. -/
theorem stackPointer_popped_pushedWord {n : Nat} (w : Word) {s : State} (h : PlainStack (n + 2) s) :
    stackPointer (popped (pushedWord w s)) = stackPointer s - 1 ∧
    stackPointer (popped (popped (pushedWord w s))) = stackPointer s := by
  simp only [stackPointer_popped, stackPointer_pushedWord w h]
  constructor <;> bv_omega

/-- Two pops after a push of a word restore SPH and SPL. -/
theorem sameRegistersBut_popped_pushedWord {n : Nat} (w : Word) {s : State} (h : PlainStack (n + 2) s) :
    SameRegistersBut (fun a => a = stackPointer s - 1 ∨ a = stackPointer s - 2) s
      (popped (popped (pushedWord w s))) := by
  obtain ⟨-, restored⟩ := stackPointer_popped_pushedWord w h
  refine sameRegistersBut_of_stackPointer (fun a k ha => ?_) restored ?_
  · have pointer : ¬ IsStackPointer a := fun e => ha (.inl e)
    rw [registerValue_popped k pointer, registerValue_popped k pointer]
    exact sameRegistersBut_pushedWord w h a k ha
  · rw [sph_high_popped, sph_high_popped, pushedWord, sph_high_pushed _ (plainStack_pushed _ h), sph_high_pushed _ h]

theorem popped_branchTo (target : Word) (s : State) : popped (branchTo target s) = branchTo target (popped s) := rfl

theorem branchTo_branchTo (target back : Word) (s : State) : branchTo back (branchTo target s) = branchTo back s := rfl

/-- RET comes back to the word on the stack. -/
theorem exec_ret_pushedWord (target w : Word) {s : State} (hs : s.Inv) (h : PlainStack 2 s) :
    exec .ret (branchTo target (pushedWord w s)) = .next (branchTo w (popped (popped (pushedWord w s)))) := by
  have plain1 : Plain (stackPointer s - 1) s := plain_below (j := 1) h (le_refl 1) (by decide)
  have plain2 : Plain (stackPointer s - 2) s := plain_below (j := 2) h (by decide) (le_refl 2)
  have outside : SameOutside s (pushedWord w s) := sameOutside_pushedWord w s
  have plain := plain_of_product outside.product
  have quiet : Undisturbed (branchTo target (pushedWord w s)) := outside.midway.trans hs.midway_nil
  have top := stackPointer_pushedWord w h
  obtain ⟨next, -⟩ := stackPointer_popped_pushedWord w h
  have popHigh : Poppable (branchTo target (pushedWord w s)) :=
    poppable_of_plain (plain_branchTo (top.symm ▸ (plain _).mpr plain2))
  have popLow : Poppable (popped (branchTo target (pushedWord w s))) :=
    poppable_of_plain (plain_branchTo (s := popped (pushedWord w s)) (next.symm ▸ (plain _).mpr plain1))
  rw [exec_ret, returnFromCall_of_poppable quiet popHigh popLow, finish_ok]
  simp only [popped_branchTo, stackPointer_branchTo, registerValue_branchTo, branchTo_branchTo, top, next,
    registerValue_popped 1 (not_isStackPointer_of_plain plain1), registerValue_pushedWord_high _ w hs h,
    registerValue_pushedWord_low _ w hs h, word_high_append_low]

/-- Settles O50: the word pushed is the word popped, and two steps down and two up restore the Stack Pointer. -/
theorem callThenReturn : Obligations.CallThenReturn := by
  unfold Obligations.CallThenReturn
  intro target s hs plain
  obtain ⟨-, restored⟩ := stackPointer_popped_pushedWord s.pc plain
  refine ⟨_, _, ?call, rfl, exec_ret_pushedWord target s.pc hs plain, rfl, ?top, ?registers⟩
  case call =>
    rw [exec_call_DA, callTo_of_roomForWord target hs.midway_nil (roomForWord_of_plainStack s.pc plain), finish_ok]
  case top => rw [stackPointer_branchTo, restored]
  case registers =>
    intro a k ha
    rw [registerValue_branchTo]
    exact sameRegistersBut_popped_pushedWord s.pc plain a k ha

/-! ### The frame of an entry (46_program_control.md R325) -/

theorem plain_of_plainStack_three {s : State} (h : PlainStack 3 s) : Plain (stackPointer s - 1) s ∧
    Plain (stackPointer s - 2) s ∧ Plain (stackPointer s - 3) s :=
  ⟨plain_below (j := 1) h (by decide) (by decide), plain_below (j := 2) h (by decide) (by decide),
    plain_below (j := 3) h (by decide) (by decide)⟩

/-- The three bytes a frame is written to. -/
def InFrame (s : State) (a : Addr) : Prop :=
  a = stackPointer s - 1 ∨ a = stackPointer s - 2 ∨ a = stackPointer s - 3

theorem stackPointer_withFrame (ret : Word) {s : State} (h : PlainStack 3 s) :
    stackPointer (withFrame ret s) = stackPointer s - 3 := by
  rw [withFrame, stackPointer_pushed_of_plainStack _ (plainStack_pushedWord ret h), stackPointer_pushedWord ret h,
    (addr_sub_sub _).2]

theorem sameRegistersBut_withFrame (ret : Word) {s : State} (h : PlainStack 3 s) :
    SameRegistersBut (fun a => IsStackPointer a ∨ InFrame s a) s (withFrame ret s) := by
  have last := sameRegistersBut_pushed (pushedWord ret s).flags (pushedWord ret s)
  rw [stackPointer_pushedWord ret h, (addr_sub_sub _).2] at last
  refine sameRegistersBut_mono (sameRegistersBut_trans (sameRegistersBut_pushedWord ret h) last) ?_
  rintro a ((ha | ha | ha) | (ha | ha))
  · exact .inl ha
  · exact .inr (.inl ha)
  · exact .inr (.inr (.inl ha))
  · exact .inl ha
  · exact .inr (.inr (.inr ha))

/-- No register of the core but SPH and SPL is in the frame. -/
theorem registerValue_withFrame (k : Nat) {a : Addr} (ret : Word) {s : State} (h : PlainStack 3 s)
    (ha : 0xF00 ≤ a.toNat) (hp : ¬ IsStackPointer a) : registerValue k a (withFrame ret s) = registerValue k a s := by
  obtain ⟨plain1, plain2, plain3⟩ := plain_of_plainStack_three h
  refine sameRegistersBut_withFrame ret h a k (not_or.mpr ⟨hp, ?_⟩)
  rintro (e | e | e)
  · exact ne_of_plain plain1 ha e
  · exact ne_of_plain plain2 ha e
  · exact ne_of_plain plain3 ha e

theorem flags_pushedWord {n : Nat} (w : Word) {s : State} (h : PlainStack (n + 2) s) :
    (pushedWord w s).flags = s.flags := by
  have plain1 : Plain (stackPointer s - 1) s := plain_below (j := 1) h (by decide) (by omega)
  have plain2 : Plain (stackPointer s - 2) s := plain_below (j := 2) h (by decide) (by omega)
  refine sameRegistersBut_pushedWord w h 0xFFC 0 ?_
  rintro (e | e | e)
  · exact absurd e (by unfold IsStackPointer; decide)
  · exact ne_of_plain plain1 (by decide) e
  · exact ne_of_plain plain2 (by decide) e

/-- FLAGS on top, then the return address, most significant byte first. -/
theorem registerValue_frame (k : Nat) (ret : Word) {s : State} (hs : s.Inv) (h : PlainStack 3 s) :
    registerValue k (stackPointer s - 3) (withFrame ret s) = s.flags ∧
    registerValue k (stackPointer s - 2) (withFrame ret s) = ret.extractLsb' 8 8 ∧
    registerValue k (stackPointer s - 1) (withFrame ret s) = ret.extractLsb' 0 8 := by
  obtain ⟨plain1, plain2, -⟩ := plain_of_plainStack_three h
  have one : PlainStack 1 (pushedWord ret s) := plainStack_pushedWord ret h
  have top := registerValue_pushed_of_plainStack k (pushedWord ret s).flags (inv_pushedWord ret hs) one
  have kept := sameRegistersBut_pushed (pushedWord ret s).flags (pushedWord ret s)
  rw [stackPointer_pushedWord ret h, (addr_sub_sub _).2] at top kept
  refine ⟨top.trans (flags_pushedWord ret h), (kept _ k ?_).trans (registerValue_pushedWord_high k ret hs h),
    (kept _ k ?_).trans (registerValue_pushedWord_low k ret hs h)⟩
  · rintro (e | e)
    · exact not_isStackPointer_of_plain plain2 e
    · exact absurd e (by bv_omega)
  · rintro (e | e)
    · exact not_isStackPointer_of_plain plain1 e
    · exact absurd e (by bv_omega)

/-- After the frame, an entry writes IRQCTL at most. -/
theorem registerValue_entered (k : Nat) {a : Addr} (ret vector : Word) (clears : Bool) (s : State) (ha : a ≠ 0xFCF) :
    registerValue k a (entered ret vector clears s) = registerValue k a (withFrame ret s) := by
  cases clears with
  | false => rfl
  | true => exact registerValue_storeRegister_other k 0xFCF a _ (withFrame ret s) ha

theorem stackPointer_entered (ret vector : Word) (clears : Bool) {s : State} (h : PlainStack 3 s) :
    stackPointer (entered ret vector clears s) = stackPointer s - 3 := by
  rw [← stackPointer_withFrame ret h]
  cases clears <;> rfl

theorem irqctl_entered (ret vector : Word) (clears : Bool) {s : State} (h : PlainStack 3 s) :
    (entered ret vector clears s).irqctl = if clears then s.irqctl &&& 0x7F else s.irqctl := by
  have kept : (withFrame ret s).irqctl = s.irqctl :=
    registerValue_withFrame 0 (a := 0xFCF) ret h (by decide) (by unfold IsStackPointer; decide)
  rw [← kept]
  cases clears <;> rfl

theorem sameRegistersBut_entered (ret vector : Word) (clears : Bool) {s : State} (h : PlainStack 3 s) :
    SameRegistersBut (fun a => IsStackPointer a ∨ a = 0xFCF ∨ InFrame s a) s (entered ret vector clears s) := by
  intro a k ha
  obtain ⟨pointer, control, frame⟩ : ¬ IsStackPointer a ∧ a ≠ 0xFCF ∧ ¬ InFrame s a := by simpa only [not_or] using ha
  rw [registerValue_entered k ret vector clears s control]
  exact sameRegistersBut_withFrame ret h a k (not_or.mpr ⟨pointer, frame⟩)

/-- The frame as it stands after an entry. -/
theorem registerValue_frame_entered (k : Nat) (ret vector : Word) (clears : Bool) {s : State} (hs : s.Inv)
    (h : PlainStack 3 s) :
    registerValue k (stackPointer s - 3) (entered ret vector clears s) = s.flags ∧
    registerValue k (stackPointer s - 2) (entered ret vector clears s) = ret.extractLsb' 8 8 ∧
    registerValue k (stackPointer s - 1) (entered ret vector clears s) = ret.extractLsb' 0 8 := by
  obtain ⟨plain1, plain2, plain3⟩ := plain_of_plainStack_three h
  have other := fun {a : Addr} (plain : Plain a s) =>
    registerValue_entered k ret vector clears s (ne_of_plain (a := 0xFCF) plain (by decide)).symm
  rw [other plain1, other plain2, other plain3]
  exact registerValue_frame k ret hs h

/-- Settles O51: the stack takes the frame below SP, and what follows the frame is IRQCTL and the branch. -/
theorem entryFrame : Obligations.EntryFrame := by
  unfold Obligations.EntryFrame
  intro ret vector clears s hs plain
  have room := roomForFrame_of_plainStack ret plain
  refine ⟨room, takeException_of_roomForFrame vector clears hs.midway_nil room, ?_⟩
  intro t
  have top : stackPointer t = stackPointer s - 3 := stackPointer_entered ret vector clears plain
  have frame := fun k => registerValue_frame_entered k ret vector clears hs plain
  have core := fun (a : Addr) (ha : 0xF00 ≤ a.toNat) (hp : ¬ IsStackPointer a) (hne : a ≠ 0xFCF) =>
    (registerValue_entered 0 ret vector clears s hne).trans (registerValue_withFrame 0 ret plain ha hp)
  have middle : stackPointer s - 3 + 1 = stackPointer s - 2 := by bv_omega
  have bottom : stackPointer s - 3 + 2 = stackPointer s - 1 := by bv_omega
  rw [top, middle, bottom]
  refine ⟨rfl, fun k => (frame k).1, fun k => (frame k).2.1, fun k => (frame k).2.2, rfl,
    core 0xFFC (by decide) (by unfold IsStackPointer; decide) (by decide),
    core 0xFFD (by decide) (by unfold IsStackPointer; decide) (by decide), irqctl_entered ret vector clears plain,
    sameRegistersBut_mono (sameRegistersBut_entered ret vector clears plain) ?_⟩
  rintro a ((ha | ha) | ha | ha | ha | ha)
  exacts [.inl ha, .inr (.inl ha), .inr (.inr (.inl ha)), .inr (.inr (.inr (.inl ha))),
    .inr (.inr (.inr (.inr (.inl ha)))), .inr (.inr (.inr (.inr (.inr ha))))]

/-- Settles O52: TRAP is the one entry, through twice its number. -/
theorem trapResult : Obligations.TrapResult := by
  unfold Obligations.TrapResult
  intro v s hs room
  refine ⟨rfl, ?_⟩
  rw [exec_trap, softwareTrap, takeException_of_roomForFrame _ _ hs room, finish_ok]

/-- IRET where three bytes can be popped: FLAGS, then the word, then the enable. -/
theorem exec_iret_of_poppable {s : State} (hs : Undisturbed s) (first : Poppable s)
    (high : Poppable (withFlags (registerValue 0 (stackPointer s) s) (popped s)))
    (low : Poppable (popped (withFlags (registerValue 0 (stackPointer s) s) (popped s)))) :
    let s1 := withFlags (registerValue 0 (stackPointer s) s) (popped s)
    exec .iret s = .next (branchTo
      (registerValue 1 (stackPointer s1) s1 ++ registerValue 2 (stackPointer (popped s1)) (popped s1))
      { popped (popped s1) with irqctl := s.irqctl ||| 0x80 }) := by
  have popFlags := pop8_of_poppable 0 hs first
  have popReturn := pop16_of_poppable 1 (s := withFlags (registerValue 0 (stackPointer s) s) (popped s))
    (undisturbed_popped hs) high low
  rw [exec_iret, (returnFromException_ok s _).mpr ⟨_, _, _, _, popFlags, popReturn, rfl⟩, finish_ok]
  rfl

/-- Settles O53: the two pops and the enable of the model are the three the statement writes. -/
theorem interruptReturnResult : Obligations.InterruptReturnResult := by
  unfold Obligations.InterruptReturnResult
  intro s hs first s1 high low
  exact exec_iret_of_poppable hs first high low

/-! ### IRET on the frame of an entry -/

/-- Each pop comes to the next byte of the frame, and the third to where the Stack Pointer was. -/
theorem stackPointer_popped_entered (ret vector : Word) (clears : Bool) {s : State} (h : PlainStack 3 s) :
    stackPointer (popped (entered ret vector clears s)) = stackPointer s - 2 ∧
    stackPointer (popped (popped (entered ret vector clears s))) = stackPointer s - 1 ∧
    stackPointer (popped (popped (popped (entered ret vector clears s)))) = stackPointer s := by
  simp only [stackPointer_popped, stackPointer_entered ret vector clears h]
  refine ⟨?_, ?_, ?_⟩ <;> bv_omega

theorem product_entered (ret vector : Word) (clears : Bool) (s : State) :
    (entered ret vector clears s).product = s.product := (sameOutside_framed ret clears s).product

theorem undisturbed_entered (ret vector : Word) (clears : Bool) {s : State} (hs : Undisturbed s) :
    Undisturbed (entered ret vector clears s) := (sameOutside_framed ret clears s).midway.trans hs

theorem poppable_entered (ret vector : Word) (clears : Bool) {s : State} (h : PlainStack 3 s) :
    Poppable (entered ret vector clears s) ∧ Poppable (popped (entered ret vector clears s)) ∧
    Poppable (popped (popped (entered ret vector clears s))) := by
  obtain ⟨plain1, plain2, plain3⟩ := plain_of_plainStack_three h
  obtain ⟨top2, top1, -⟩ := stackPointer_popped_entered ret vector clears h
  have plain := plain_of_product (product_entered ret vector clears s)
  exact ⟨poppable_of_plain (stackPointer_entered ret vector clears h ▸ (plain _).mpr plain3),
    poppable_of_plain (top2 ▸ (plain _).mpr plain2), poppable_of_plain (top1 ▸ (plain _).mpr plain1)⟩

theorem flags_entered (ret vector : Word) (clears : Bool) {s : State} (h : PlainStack 3 s) :
    (entered ret vector clears s).flags = s.flags :=
  (registerValue_entered 0 (a := 0xFFC) ret vector clears s (by decide)).trans
    (registerValue_withFrame 0 ret h (by decide) (by unfold IsStackPointer; decide))

/-- IRET comes back to the address in the frame; the FLAGS it pops are those that stand there already. -/
theorem exec_iret_entered (ret vector : Word) (clears : Bool) {s : State} (hs : s.Inv) (h : PlainStack 3 s) :
    let t := entered ret vector clears s
    exec .iret t = .next (branchTo ret (withIrqctl (t.irqctl ||| 0x80) (popped (popped (popped t))))) := by
  intro t
  obtain ⟨plain1, plain2, -⟩ := plain_of_plainStack_three h
  obtain ⟨top2, top1, -⟩ := stackPointer_popped_entered ret vector clears h
  obtain ⟨popFlags, popHigh, popLow⟩ := poppable_entered ret vector clears h
  have frame := fun k => registerValue_frame_entered k ret vector clears hs h
  have poppedFlags : withFlags (registerValue 0 (stackPointer t) t) (popped t) = popped t := by
    rw [stackPointer_entered ret vector clears h, (frame 0).1, ← flags_entered ret vector clears h]
    rfl
  have high : registerValue 1 (stackPointer (popped t)) (popped t) = ret.extractLsb' 8 8 := by
    rw [top2, registerValue_popped 1 (not_isStackPointer_of_plain plain2)]
    exact (frame 1).2.1
  have low : registerValue 2 (stackPointer (popped (popped t))) (popped (popped t)) = ret.extractLsb' 0 8 := by
    rw [top1, registerValue_popped 2 (not_isStackPointer_of_plain plain1),
      registerValue_popped 2 (not_isStackPointer_of_plain plain1)]
    exact (frame 2).2.2
  have result := exec_iret_of_poppable (undisturbed_entered ret vector clears hs.midway_nil) popFlags
    (poppedFlags.symm ▸ popHigh) (poppedFlags.symm ▸ popLow)
  simp only [t] at poppedFlags high low
  simp only [poppedFlags, high, low, word_high_append_low] at result
  exact result

/-- Three pops after an entry restore SPH and SPL. -/
theorem sameRegistersBut_popped_entered (ret vector : Word) (clears : Bool) {s : State} (h : PlainStack 3 s) :
    SameRegistersBut (fun a => a = 0xFCF ∨ InFrame s a) s (popped (popped (popped (entered ret vector clears s)))) := by
  obtain ⟨-, -, restored⟩ := stackPointer_popped_entered ret vector clears h
  refine sameRegistersBut_of_stackPointer (fun a k ha => ?_) restored ?_
  · have pointer : ¬ IsStackPointer a := fun e => ha (.inl e)
    rw [registerValue_popped k pointer, registerValue_popped k pointer, registerValue_popped k pointer]
    exact sameRegistersBut_entered ret vector clears h a k ha
  · have entry : (entered ret vector clears s).sph = (withFrame ret s).sph :=
      registerValue_entered 0 (a := 0xFFE) ret vector clears s (by decide)
    rw [sph_high_popped, sph_high_popped, sph_high_popped, entry, withFrame,
      sph_high_pushed _ (plainStack_pushedWord ret h), pushedWord, sph_high_pushed _ (plainStack_pushed _ h),
      sph_high_pushed _ h]

theorem registerValue_withIrqctl (k : Nat) {a : Addr} (v : Byte) (s : State) (ha : a ≠ 0xFCF) :
    registerValue k a (withIrqctl v s) = registerValue k a s := registerValue_storeRegister_other k 0xFCF a v s ha

/-- What the end of an IRET leaves as it is. -/
theorem branchTo_withIrqctl (target : Word) (v : Byte) (s : State) :
    (branchTo target (withIrqctl v s)).pc = target ∧ (branchTo target (withIrqctl v s)).flags = s.flags ∧
    stackPointer (branchTo target (withIrqctl v s)) = stackPointer s ∧
    (branchTo target (withIrqctl v s)).irqctl = v ∧
    ∀ a, programByte a (branchTo target (withIrqctl v s)) = programByte a s ∧
      dataByte a (branchTo target (withIrqctl v s)) = dataByte a s :=
  ⟨rfl, rfl, rfl, rfl, fun _ => ⟨rfl, rfl⟩⟩

theorem flags_popped (s : State) : (popped s).flags = s.flags := rfl

/-- Settles O54: IRET pops the frame that the entry left, so that only IRQCTL and the frame differ. -/
theorem trapThenReturn : Obligations.TrapThenReturn := by
  unfold Obligations.TrapThenReturn
  intro v s hs plain
  let vector : Word := BitVec.ofNat 16 (2 * v.toNat)
  let clears := s.product.trapClearsIrqe
  let t := entered s.pc vector clears s
  have room := roomForFrame_of_plainStack s.pc plain
  have outside : SameOutside t (popped (popped (popped t))) :=
    sameOutside_trans (sameOutside_popped t) (sameOutside_trans (sameOutside_popped _) (sameOutside_popped _))
  obtain ⟨-, -, restored⟩ := stackPointer_popped_entered s.pc vector clears plain
  obtain ⟨pc, flags, top, control, memories⟩ :=
    branchTo_withIrqctl s.pc (t.irqctl ||| 0x80) (popped (popped (popped t)))
  refine ⟨t, branchTo s.pc (withIrqctl (t.irqctl ||| 0x80) (popped (popped (popped t)))), ?trap,
    exec_iret_entered s.pc vector clears hs plain, pc, ?flags, top.trans restored, ?enabled, ?registers, ?memories⟩
  case trap => rw [exec_trap, softwareTrap, takeException_of_roomForFrame _ _ hs.midway_nil room, finish_ok]
  case flags =>
    rw [flags, flags_popped, flags_popped, flags_popped]
    exact flags_entered s.pc vector clears plain
  case enabled =>
    rw [interruptsEnabled, control]
    simp
  case registers =>
    intro a k ha
    rw [registerValue_branchTo, registerValue_withIrqctl k _ _ fun e => ha (.inl e)]
    exact sameRegistersBut_popped_entered s.pc vector clears plain a k ha
  case memories =>
    intro a
    obtain ⟨program, data⟩ := memories a
    have entry : SameOutside s (framed s.pc clears s) := sameOutside_framed s.pc clears s
    exact ⟨program.trans ((outside.program a).trans (entry.program a)),
      data.trans ((outside.data a).trans (entry.data a))⟩

end Sys2Proof.Proofs

/-! ## CPU control, atomic blocks, interrupts and the step -/

namespace Sys2Proof.Proofs

open Sys2Proof Sys2Proof.Machine Sys2Proof.Claims

/-! ### CPU control (43_cpu_control.md) -/

theorem byte_and_low (b : Byte) : b &&& 0x7F = BitVec.ofNat 8 (b.toNat % 128) :=
  byte_eq_ofNat (Nat.and_two_pow_sub_one_eq_mod b.toNat 7)

theorem byte_or_high (b : Byte) : b ||| 0x80 = BitVec.ofNat 8 (b.toNat % 128 + 128) := by
  have parts : b ||| 0x80 = BitVec.ofBool true ++ b.extractLsb' 0 7 := by
    refine BitVec.eq_of_getLsbD_eq fun i hi => ?_
    rw [BitVec.getLsbD_append]
    interval_cases i <;> simp
  refine byte_eq_ofNat ?_
  rw [parts, toNat_append_eq_add, toNat_extractLsb'_eq_mod, BitVec.toNat_ofBool, Bool.toNat_true, Nat.pow_zero]
  omega

theorem openAtomicBlock_of_closed {s : State} (h : s.atm = 0) : openAtomicBlock s = .ok { s with atm := 3 } := by
  rw [openAtomicBlock, if_pos h]
  rfl

theorem exec_atm_of_closed {s : State} (h : s.atm = 0) : exec .atm s = .next { s with atm := 3 } := by
  rw [exec_atm, openAtomicBlock_of_closed h, finish_ok]

theorem enterMode_of_closed (m : Mode) {s : State} (h : s.atm = 0) : enterMode m s = { s with mode := m } := by
  rw [enterMode, if_pos h]
  exact congrArg (fun n => { s with mode := m, atm := n }) h.symm

theorem exec_brk_of_nop {s : State} (h : s.product.brkAction = .nop) : exec .brk s = .next s := by
  change breakpoint s = _
  rw [breakpoint, h]

theorem exec_brk_of_endOfRun {s : State} (h : s.product.brkAction = .endOfRun) :
    exec .brk s = .fault (.debuggerBreak s.pc) := by
  change breakpoint s = _
  rw [breakpoint, h]

/-- Settles O42: each of these instructions is the update of one field. -/
theorem cpuControlResult : Obligations.CpuControlResult := by
  unfold Obligations.CpuControlResult
  refine ⟨⟨rfl, rfl, rfl, rfl, rfl, rfl, rfl, rfl, fun _ => rfl⟩, fun s v => ⟨rfl, rfl, rfl, ?di, ?ei,
    exec_atm_of_closed, fun h => ?halt, fun h => ?stop, exec_brk_of_nop, exec_brk_of_endOfRun⟩⟩
  case di =>
    rw [← byte_and_low]
    rfl
  case ei =>
    rw [← byte_or_high]
    rfl
  case halt => rw [exec_halt, enterMode_of_closed .halt h]
  case stop => rw [exec_stop, enterMode_of_closed .stop h]

/-- Settles O43: ATM branches on the counter, to the trap or to the new block. -/
theorem atomInsideAtom : Obligations.AtomInsideAtom := by
  unfold Obligations.AtomInsideAtom
  refine fun s => ⟨fun inside hs room => ?_, exec_atm_of_closed⟩
  rw [exec_atm, openAtomicBlock, if_neg inside, illegalInstruction_of_roomForFrame hs room, finish_ok]

/-! ### When a request is granted (60_exceptions.md R366) -/

theorem isVector_iff (v : Word) (s : State) :
    isVector v s = true ↔ v ∈ s.product.irqVectors ∧ v.toNat % 2 = 0 ∧ 8 ≤ v.toNat := by
  have even : v.getLsbD 0 = decide (v.toNat % 2 = 1) := by rw [BitVec.getLsbD, Nat.testBit_zero]
  simp only [isVector, even, Bool.and_eq_true, List.contains_iff_mem, Bool.not_eq_true', decide_eq_false_iff_not,
    decide_eq_true_eq, Nat.mod_two_ne_one, and_assoc]

theorem modeAllows_iff (e : WakeEvent) (s : State) : modeAllows e s = true ↔
    s.mode = .run ∨ (s.mode = .halt ∧ e ∈ s.product.haltWake) ∨ (s.mode = .stop ∧ e ∈ s.product.stopWake) := by
  unfold modeAllows
  cases s.mode <;> simp

/-- Settles O55: the model's test is the four conditions. -/
theorem interruptGrant : Obligations.InterruptGrant := by
  unfold Obligations.InterruptGrant
  intro v s
  simp only [granted, Bool.and_eq_true, isVector_iff, modeAllows_iff, decide_eq_true_eq, interruptsEnabled, and_assoc]

theorem granted_iff (v : Word) (s : State) : granted v s = true ↔
    isVector v s = true ∧ interruptsEnabled s = true ∧ s.atm = 0 ∧ modeAllows .grantedInterrupt s = true := by
  simp only [granted, Bool.and_eq_true, decide_eq_true_eq, and_assoc]

theorem wakesMasked_iff (v : Word) (s : State) : wakesMasked v s = true ↔ Wakes v s := by
  simp only [wakesMasked, Wakes, Bool.and_eq_true, isVector_iff, modeAllows_iff, decide_eq_true_eq, interruptsEnabled,
    Bool.not_eq_true', and_assoc]
  cases s.mode <;> simp

theorem not_granted_of_wakes {v : Word} {s : State} (h : Wakes v s) : granted v s = false := by
  obtain ⟨-, masked, -⟩ := h
  refine Bool.eq_false_iff.mpr fun e => ?_
  obtain ⟨-, enabled, -⟩ := (granted_iff v s).mp e
  exact Bool.false_ne_true (masked.symm.trans enabled)

theorem coreStep_of_not_run {s : State} (h : s.mode ≠ .run) :
    coreStep s = .next { s with midway := [], tick := s.tick + 1 } := by
  have closed : coreStep s = .next (closeStep s) := by
    unfold coreStep
    cases hm : s.mode with
    | run => exact absurd hm h
    | halt => rfl
    | stop => rfl
  exact closed

/-! ### Inside an atomic block (43_cpu_control.md R240) -/

theorem offeredStep_of_open {v : Word} {s : State} (h : s.atm ≠ 0) : offeredStep v s = coreStep s := by
  have notGranted : granted v s = false := Bool.eq_false_iff.mpr fun e => h ((granted_iff v s).mp e).2.2.1
  have notWoken : wakesMasked v s = false := Bool.eq_false_iff.mpr fun e => h ((wakesMasked_iff v s).mp e).2.2.1
  simp only [offeredStep, notGranted, notWoken, Bool.false_eq_true, if_false]

/-- A DMA request that finds an atomic block open does nothing. -/
theorem makeMove_dma_of_open {m : Move} {l : Location} {v : Byte} (hm : m = .dmaRead l ∨ m = .dmaWrite l v) {s : State}
    (h : s.atm ≠ 0) : makeMove m s = .ok s := by
  have refused : dmaGranted s = false := by rw [dmaGranted, decide_eq_false h, Bool.and_false]
  rcases hm with rfl | rfl <;> simp only [makeMove, refused, Bool.false_eq_true, if_false]

theorem makeMoves_dma_of_open {ms : List Move}
    (hms : ∀ m ∈ ms, ∃ (l : Location) (v : Byte), m = .dmaRead l ∨ m = .dmaWrite l v) {s : State} (h : s.atm ≠ 0) : makeMoves ms s = .ok s := by
  induction ms with
  | nil => rfl
  | cons m ms ih =>
    obtain ⟨l, v, hm⟩ := hms m List.mem_cons_self
    rw [makeMoves, makeMove_dma_of_open hm h]
    exact ih fun x hx => hms x (List.mem_cons_of_mem m hx)

/-- No instruction but ATM, HALT and STOP touches the counter itself. -/
theorem exec_atm_eq {i : Instr} (notAtm : i ≠ .atm) (notHalt : i ≠ .halt) (notStop : i ≠ .stop) {s t : State}
    (hs : Undisturbed s) (ht : exec i s = .next t) : t.atm = s.atm :=
  eq_of_follows_untouched (p := State.atm)
    (follows_exec (primitive_untouched storeRegister_atm (fun _ _ => rfl) fun _ => rfl) i
      (fun _ _ _ => untouched_writeProgram fun _ _ _ => rfl) (fun _ _ _ => untouched_writeData fun _ _ => rfl)
      (fun e => absurd e notAtm) (fun e => (e.elim notHalt notStop).elim) s) hs ht

theorem countsDown_iff (i : Instr) : countsDown i = true ↔ i ≠ .atm ∧ i ≠ .halt ∧ i ≠ .stop := by
  simp only [countsDown, Bool.and_eq_true, decide_eq_true_eq, and_assoc]

theorem runInstruction_of_next {i : Instr} {n : Nat} {s t : State} (h : runInstruction i n s = .next t) :
    ∃ u, exec i (withPc (s.pc + BitVec.ofNat 16 n) s) = .next u ∧ t = closeInstruction i u := by
  unfold runInstruction at h
  cases hu : exec i (withPc (s.pc + BitVec.ofNat 16 n) s) with
  | next u =>
    rw [hu] at h
    cases h
    exact ⟨u, rfl, rfl⟩
  | fault | refused =>
    rw [hu] at h
    exact nomatch h

/-- Settles O44: every test of a request asks for a closed block, and the countdown is the one change of the counter. -/
theorem atomicBlock : Obligations.AtomicBlock := by
  unfold Obligations.AtomicBlock
  refine ⟨fun v s => offeredStep_of_open, ?agent, ?midway, ?countdown, ?modes⟩
  case agent =>
    intro l v m rest s inside hm hinputs
    unfold step cycle
    rw [hinputs]
    simp only
    rw [makeMove_dma_of_open hm (s := withMidway [] (withInputs rest s)) inside, finish_ok]
    rfl
  case midway =>
    intro ms rest s inside hms hmidway
    rw [gap, hmidway]
    exact makeMoves_dma_of_open hms inside
  case countdown =>
    intro i n s t notAtm notHalt notStop hs ht
    obtain ⟨u, hu, rfl⟩ := runInstruction_of_next ht
    have kept : u.atm = s.atm :=
      exec_atm_eq notAtm notHalt notStop (s := withPc (s.pc + BitVec.ofNat 16 n) s) hs hu
    rw [closeInstruction, if_pos ((countsDown_iff i).mpr ⟨notAtm, notHalt, notStop⟩), ← kept]
    rfl
  case modes =>
    intro s inside
    refine ⟨Config.freeCount s.tick .atomicLeft % 4, Nat.le_of_lt_succ (Nat.mod_lt _ (by decide)), ?_, ?_⟩
    · rw [exec_halt, enterMode, if_neg inside]
      rfl
    · rw [exec_stop, enterMode, if_neg inside]
      rfl

/-! ### The step with what the core is signalled (60_exceptions.md sections 3 and 6) -/

theorem step_core {g : Signal} {ms : List (List Move)} {rest : List Input} {s : State}
    (h : s.inputs = .core g ms :: rest) : step s = signalledStep g (withMidway ms (withInputs rest s)) := by
  unfold step cycle
  rw [h]

/-- The end of an entry that leaves Halt and Stop mode. -/
theorem closeStep_withMode_run {t : State} {n : Nat} (quiet : Undisturbed t) (ticks : t.tick = n) :
    closeStep (withMode .run t) = { t with mode := .run, tick := n + 1 } := by
  rw [← ticks]
  exact congrArg (fun ms => { t with mode := .run, tick := t.tick + 1, midway := ms }) quiet.symm

theorem tick_entered (ret vector : Word) (clears : Bool) (s : State) : (entered ret vector clears s).tick = s.tick :=
  (sameOutside_framed ret clears s).tick

theorem closeEntry_ok (t : State) : closeEntry (.ok t) = .next (closeStep t) := rfl

/-- An entry with room for its frame, from Run, Halt or Stop mode. -/
theorem closeEntry_entered {ret vector : Word} {clears : Bool} {s : State} (hs : Undisturbed s)
    (room : RoomForFrame ret s) :
    closeEntry (takeException ret vector clears s >>= fun t => .ok (withMode .run t)) =
      .next { entered ret vector clears s with mode := .run, tick := s.tick + 1 } := by
  rw [takeException_of_roomForFrame vector clears hs room]
  change closeEntry (.ok _) = _
  rw [closeEntry_ok,
    closeStep_withMode_run (undisturbed_entered ret vector clears hs) (tick_entered ret vector clears s)]

theorem offeredStep_of_granted {v : Word} {s : State} (h : granted v s = true) :
    offeredStep v s = closeEntry (interruptEntry v s) := by
  rw [offeredStep, if_pos h]

theorem offeredStep_of_wakes {v : Word} {s : State} (h : Wakes v s) :
    offeredStep v s = .next (closeStep (withMode .run s)) := by
  rw [offeredStep, not_granted_of_wakes h, if_neg Bool.false_ne_true, if_pos ((wakesMasked_iff v s).mpr h)]

theorem offeredStep_of_neither {v : Word} {s : State} (h : granted v s = false) (hw : ¬ Wakes v s) :
    offeredStep v s = coreStep s := by
  rw [offeredStep, h, if_neg Bool.false_ne_true, if_neg fun e => hw ((wakesMasked_iff v s).mp e)]

theorem timeoutDue_iff (s : State) : timeoutDue s = true ↔ TimedOut s := by
  simp only [timeoutDue, TimedOut, Bool.and_eq_true, decide_eq_true_eq]

theorem timeoutStep_of_idle {s : State} (h : ¬ TimedOut s ∨ s.product.watchdog.action = .never) :
    timeoutStep s = coreStep s := by
  unfold timeoutStep
  rcases h with h | h
  · rw [if_neg fun e => h ((timeoutDue_iff s).mp e)]
  · rw [h, ite_self]

theorem timeoutStep_of_reset {s : State} (due : TimedOut s) (h : s.product.watchdog.action = .reset) :
    timeoutStep s = .next (resetAgain s) := by
  rw [timeoutStep, if_pos ((timeoutDue_iff s).mpr due), h]

theorem timeoutStep_of_vector {frame maskable clears : Bool} {s : State} (due : TimedOut s)
    (h : s.product.watchdog.action = .vector frame maskable clears) (letIn : timeoutGranted maskable s = true) :
    timeoutStep s = closeEntry (timeoutEntry frame clears s) := by
  rw [timeoutStep, if_pos ((timeoutDue_iff s).mpr due), h]
  exact if_pos letIn

theorem timeoutGranted_of_run {maskable : Bool} {s : State} (running : s.mode = .run) (closed : s.atm = 0)
    (enabled : maskable = true → s.irqctl.getLsbD 7 = true) : timeoutGranted maskable s = true := by
  have allowed : modeAllows .watchdogTimeout s = true := (modeAllows_iff _ s).mpr (.inl running)
  rw [timeoutGranted, allowed, decide_eq_true closed, Bool.true_and, Bool.and_true]
  cases maskable with
  | false => rfl
  | true => exact enabled rfl

/-- With no outside agent moving, a step is the core's own. -/
theorem step_of_quiet {s : State} (h : Quiet s) : step s = coreStep (begun s.inputs.tail s) := by
  cases hin : s.inputs with
  | nil =>
    have same : begun [] s = withMidway [] s := congrArg (fun is => { s with inputs := is, midway := [] }) hin.symm
    unfold step cycle
    rw [hin, List.tail_nil, same]
  | cons i rest =>
    have first : i = .core .quiet [] := by
      rcases h with h | h
      · exact nomatch hin.symm.trans h
      · rw [hin] at h
        exact Option.some.inj h
    subst first
    exact step_core hin

/-- Settles O56: each signal has its own branch of the step, and each entry is the one entry. -/
theorem interruptStep : Obligations.InterruptStep := by
  unfold Obligations.InterruptStep
  refine ⟨?offer, ?timeout, ?idle, fun s => coreStep_of_not_run⟩
  case offer =>
    intro v rest s hinputs s0
    have signalled : step s = offeredStep v (begun rest s) := step_core hinputs
    rw [signalled]
    refine ⟨fun hgrant room => ?_, fun wakes => ?_, fun notGranted notWoken => ?_⟩
    · rw [offeredStep_of_granted (s := begun rest s) hgrant]
      exact closeEntry_entered (s := s0) rfl room
    · exact offeredStep_of_wakes (s := begun rest s) wakes
    · exact offeredStep_of_neither (s := begun rest s) notGranted notWoken
  case timeout =>
    intro rest s hinputs
    have signalled : step s = timeoutStep (begun rest s) := step_core hinputs
    rw [signalled]
    refine ⟨fun m c due action running closed enabled room => ?_, fun idle => ?_⟩
    · rw [timeoutStep_of_vector (s := begun rest s) due action (timeoutGranted_of_run running closed enabled)]
      exact closeEntry_entered (s := begun rest s) rfl room
    · exact timeoutStep_of_idle (s := begun rest s) idle
  case idle =>
    intro s resting quiet
    rw [step_of_quiet quiet]
    exact coreStep_of_not_run (s := begun s.inputs.tail s) resting

/-! ### The instruction a step runs (00_scope.md R15) -/

/-- What follows an instruction, as the statements write it. -/
theorem closeInstruction_eq (i : Instr) (t : State) :
    closeInstruction i t = { t with
      atm := if i = .atm ∨ i = .halt ∨ i = .stop then t.atm else t.atm - 1
      tick := t.tick + 1
      midway := [] } := by
  unfold closeInstruction
  by_cases h : i = .atm ∨ i = .halt ∨ i = .stop
  · have still : countsDown i ≠ true := fun e => by
      obtain ⟨notAtm, notHalt, notStop⟩ := (countsDown_iff i).mp e
      exact h.elim notAtm fun h => h.elim notHalt notStop
    rw [if_neg still, if_pos h]
    rfl
  · obtain ⟨notAtm, notHalt, notStop⟩ : i ≠ .atm ∧ i ≠ .halt ∧ i ≠ .stop := by simpa only [not_or] using h
    rw [if_pos ((countsDown_iff i).mpr ⟨notAtm, notHalt, notStop⟩), if_neg h]
    rfl

theorem coreStep_of_run {s : State} (h : s.mode = .run) : coreStep s = executeHere s := by
  rw [coreStep, h]

theorem executeHere_of_decoded {s : State} {i : Instr} {n : Nat} (h : decode (fetchBytes s) = .ok i n) :
    executeHere s = runInstruction i n s := by
  rw [executeHere, h]

theorem runInstruction_next {i : Instr} {n : Nat} {s t : State}
    (h : exec i (withPc (s.pc + BitVec.ofNat 16 n) s) = .next t) :
    runInstruction i n s = .next (closeInstruction i t) := by
  rw [runInstruction, h]

theorem runInstruction_fault {i : Instr} {n : Nat} {s : State} {f : Fault}
    (h : exec i (withPc (s.pc + BitVec.ofNat 16 n) s) = .fault f) : runInstruction i n s = .fault f := by
  rw [runInstruction, h]

theorem runInstruction_refused {i : Instr} {n : Nat} {s : State} {r : Refusal}
    (h : exec i (withPc (s.pc + BitVec.ofNat 16 n) s) = .refused r) : runInstruction i n s = .refused r := by
  rw [runInstruction, h]

/-- A byte no store changed is Program Memory's. -/
theorem fetchByte_of_fresh {k : Nat} {s : State} (h : staleByte s.stale (s.pc + BitVec.ofNat 16 k).toNat = none) :
    fetchByte k s = programByte (s.pc + BitVec.ofNat 16 k) s := by
  rw [fetchByte, h]

/-- Settles O57: Run mode is the one branch of the core's step that fetches, and a taken branch leaves no byte stale. -/
theorem stepRunsDecoded : Obligations.StepRunsDecoded := by
  unfold Obligations.StepRunsDecoded
  refine ⟨fun s i n quiet running decoded => ?_, fun k s => fetchByte_of_fresh, fun t k s => ?_⟩
  · rw [step_of_quiet quiet, coreStep_of_run (s := begun s.inputs.tail s) running,
      executeHere_of_decoded (s := begun s.inputs.tail s) decoded]
    cases he : exec i { begun s.inputs.tail s with pc := s.pc + BitVec.ofNat 16 n } with
    | next t => exact (runInstruction_next he).trans (congrArg _ (closeInstruction_eq i t))
    | fault f => exact runInstruction_fault he
    | refused r => exact runInstruction_refused he
  · exact fetchByte_of_fresh (s := branchTo t s) rfl

/-! ### Reset (70_reset_and_hazards.md section 1) -/

/-- What a Reset leaves. -/
theorem resetAgain_effects (s : State) :
    (resetAgain s).pc = programWord 0x0002 s ∧ (resetAgain s).mode = .run ∧ (resetAgain s).atm = 0 ∧
    (resetAgain s).pm = s.pm ∧ (resetAgain s).dm = s.dm ∧ flag .f1 (resetAgain s) = flag .f1 s ∧
    flag .f2 (resetAgain s) = flag .f2 s := by
  have user (f : Flag) (hf : f = .f1 ∨ f = .f2) : flag f (resetAgain s) = flag f s :=
    (getFlag_mergeUserFlags s.product.flagBit f s.product.resetFlags s.flags).trans (if_pos hf)
  exact ⟨rfl, rfl, rfl, rfl, rfl, user .f1 (.inl rfl), user .f2 (.inr rfl)⟩

theorem accessRegister_of_midway_nil_cons (k : Nat) {a : Addr} {s : State} (rest : List (List Move))
    (h : Readable a s) :
    accessRegister k a (withMidway ([] :: rest) s) = .ok (registerValue k a s, withMidway rest s) :=
  if_neg h

/-- A pair before whose two bytes no agent moves, in either order. -/
theorem accessPair_of_midway_nil_cons {k : Nat} {a : Addr} {w : Word} {s : State} (rest : List (List Move))
    (hs : Undisturbed s) (hw : readPair k a s = .ok w) :
    accessPair k a (withMidway ([] :: [] :: rest) s) = .ok (w, withMidway rest s) := by
  obtain ⟨high, low, rfl⟩ := (readPair_ok k a s w hs).mp hw
  unfold accessPair accessTwo
  simp only [withMidway_product]
  split
  · rw [accessRegister_of_midway_nil_cons (k + 1) _ low]
    simp only [bind, Except.bind, accessRegister_of_midway_nil_cons k rest high]
  · rw [accessRegister_of_midway_nil_cons k _ high]
    simp only [bind, Except.bind, accessRegister_of_midway_nil_cons (k + 1) rest low]

theorem writeProgram_withMidway (a : Word) (v : Byte) (ms : List (List Move)) (s : State) :
    writeProgram a v (withMidway ms s) = withMidway ms (writeProgram a v s) := by
  unfold writeProgram
  by_cases writes : (covers s.product.pmAvailable a.toNat && covers s.product.pmWritable a.toNat) = true
  · rw [if_pos writes]
    exact if_pos writes
  · rw [if_neg writes]
    exact if_neg writes

/-- A store to Program Memory before whose five byte accesses no agent moves. -/
theorem storeToMemory_of_midway_nils {rr r : Nib} {s : State} {a : Word} {v : Byte} (rest : List (List Move))
    (hs : Undisturbed s) (ha : readPair 0 (workingAddress rr s) s = .ok a)
    (hv : sourceValue (.place (.viaWorking r)) s = .ok v) :
    storeToMemory writeProgram rr (.viaWorking r) (withMidway ([] :: [] :: [] :: [] :: [] :: rest) s) =
      .ok (withMidway rest (writeProgram a v s)) := by
  obtain ⟨sa, hsa, readByte, rfl⟩ := (sourceValue_place_ok (.viaWorking r) s v hs).mp hv
  have readPointer := readable_of_placeAddress_viaWorking hs hsa
  rw [placeAddress_viaWorking 4 r hs readPointer] at hsa
  cases hsa
  have source : accessSource (.place (.viaWorking r)) (withMidway ([] :: [] :: [] :: [] :: [] :: rest) s)
      (withMidway ([] :: [] :: [] :: rest) s) =
        .ok (registerValue 6 (pageAddress (registerValue 4 (workingAddress r s) s) s) s,
          withMidway ([] :: rest) s) := by
    change ((accessRegister 4 (workingAddress r s) (withMidway ([] :: [] :: [] :: rest) s) >>= fun p =>
      .ok (pageAddress p.1 s, p.2)) >>= fun q => accessRegister 6 q.1 q.2) = _
    rw [accessRegister_of_midway_nil_cons 4 ([] :: [] :: rest) readPointer]
    exact accessRegister_of_midway_nil_cons 6 ([] :: rest) readByte
  unfold storeToMemory
  rw [show workingAddress rr (withMidway ([] :: [] :: [] :: [] :: [] :: rest) s) = workingAddress rr s from rfl,
    accessPair_of_midway_nil_cons ([] :: [] :: [] :: rest) hs ha]
  simp only [bind, Except.bind]
  rw [source]
  simp only
  rw [← writeProgram_withMidway]
  rfl

theorem exec_ldci_Irr_Ir (rr r : Nib) (s : State) :
    exec (.ldci_Irr_Ir rr r) s = finish (storeAndIncrement writeProgram rr r s) := rfl

/-- A Reset that comes before the core's next access ends the increments before they change anything. -/
theorem incrementPointers_of_midway_reset (ra rra : Addr) (s : State) :
    incrementPointers ra rra (withMidway [[.reset]] s) = .error (.reset (withMidway [] s)) := rfl

/-- Settles O58: each Reset is the one Reset, of the state it comes in. -/
theorem resetEffects : Obligations.ResetEffects := by
  unfold Obligations.ResetEffects
  refine ⟨fun s ms rest signalled => ?between, fun rr r s a v hs ha hv => ?midway,
    fun p pm dm => ⟨rfl, rfl, rfl, rfl, rfl⟩⟩
  case between =>
    rcases signalled with hinputs | ⟨hinputs, due, action⟩
    · refine ⟨resetAgain (withMidway [] (withInputs rest s)), ?_,
        resetAgain_effects (withMidway [] (withInputs rest s))⟩
      unfold step cycle
      rw [hinputs]
      rfl
    · refine ⟨resetAgain (withMidway ms (withInputs rest s)), ?_,
        resetAgain_effects (withMidway ms (withInputs rest s))⟩
      exact (step_core hinputs).trans (timeoutStep_of_reset (s := withMidway ms (withInputs rest s)) due action)
  case midway =>
    have stored := storeToMemory_of_midway_nils [[.reset]] hs ha hv
    obtain ⟨pm, stale, fields⟩ := writeProgram_fields a v s
    obtain ⟨pc, mode, atm, program, data, user1, user2⟩ := resetAgain_effects (withMidway [] (writeProgram a v s))
    refine ⟨resetAgain (withMidway [] (writeProgram a v s)), ?_, pc, mode, atm, program, data.trans ?_, user1.trans ?_,
      user2.trans ?_⟩
    · change exec (.ldci_Irr_Ir rr r) (withMidway ([] :: [] :: [] :: [] :: [] :: [[.reset]]) s) = _
      rw [exec_ldci_Irr_Ir, storeAndIncrement, stored]
      simp only [bind, Except.bind, incrementPointers_of_midway_reset, finish]
    all_goals
      rw [fields]
      rfl

end Sys2Proof.Proofs
